-- ==== Sys2Proof/Word.lean ====
section
/-! DEFINITION. The word types of the W316's two kinds of line: bytes and band serials. -/
namespace Sys2Proof

/-- One byte of a trunk or spur frame (R155, R172). -/
abbrev Byte := BitVec 8

/-- A band serial, 32 bits (00, "Terms used in this manual"). -/
abbrev Serial := BitVec 32

end Sys2Proof
end

