-- ==== Sys2Proof/Config.lean ====
section
/-! DEFINITION. The numbers that size the part (00, "The numbers that size the part") and the one free value. -/
namespace Sys2Proof.Config

/-- Places of the Record Queue (R141). -/
def recordPlaces : Nat := 128

/-- The sum at which BACKPRESSURE_OUT is asserted (R145). -/
def backpressure : Nat := 120

/-- Band records in the Visit Table (R1). -/
def bandSlots : Nat := 4096

/-- Items of a head's outbound command list (R166). -/
def commandItems : Nat := 16

/-- Items one poll carries (R167) and one reply may carry (R157). -/
def pollItems : Nat := 4

/-- Replies the reply list holds (R179). -/
def replyPlaces : Nat := 4

/-- Entries of a class queue (R102). -/
def queuePlaces : Nat := 16

/-- The bound at which 16-bit amounts and minutes saturate (R4, R62, R110, R185). -/
def saturation : Nat := 65535

/-- Bytes of a spur receive FIFO (R157). -/
def rxFifoBytes : Nat := 256

/-- The station number every W316 takes but none answers to alone (R172). -/
def broadcast : BitVec 8 := 15

/-- The tariff set a band would latch if the day were OPEN with the minute of day UNSET.
No run reaches that state (R127: "The day can be OPEN only with the minute of day set"), and the spec gives no
value for it: a free value, applied to the site minute. DESIGN CHOICE, log 12. -/
opaque setWithClockUnset : Nat → Fin 4

end Sys2Proof.Config
end

