-- ==== Sys2Proof/Syntax.lean ====
section
/-! DEFINITION. The commands of the W316: one constructor of `Instr` per row of spec/opcode_table.json, and the
operand types they carry. -/
namespace Sys2Proof

/-- A door as a head reports it: OPEN, SHUT, UNKNOWN (R49). -/
inductive Door where
  | opened | shut | unknown
deriving DecidableEq, Repr

/-- A bolt's position: THROWN, RETRACTED, UNKNOWN (R49). -/
inductive Bolt where
  | thrown | retracted | unknown
deriving DecidableEq, Repr

/-- The way a bolt is to move (R72). -/
inductive Direction where
  | throw | retract
deriving DecidableEq, Repr

/-- The outcome of a BOLT item (R158): DONE, or FAILED with the position found afterwards. -/
inductive BoltOutcome where
  | done
  | failed (found : Bolt)
deriving DecidableEq, Repr

/-- The four head types (R161). -/
inductive HeadType where
  | lock | cabin | kiosk | exit
deriving DecidableEq, Repr

/-- An item of a good reply (R158), its readers and door indexes as they stand on the line (R184). -/
inductive ReplyItem where
  | tap (reader : Byte) (serial : Serial)
  | door (index : Byte) (state : Door)
  | bolt (index : Byte) (direction : Direction) (outcome : BoltOutcome)
  | status (type : HeadType) (doors : List (Door × Bolt))
deriving DecidableEq, Repr

/-- A zone's allocation mode (R59). -/
inductive ZoneMode where
  | rotate | pack
deriving DecidableEq, Repr

/-- The functions of a local line, in the order of their codes (R182, R191). -/
inductive LineFunction where
  | unmapped | evacIn | closeKey | attentionOut | evacOut | backpressureOut
deriving DecidableEq, Repr

/-- The downstream frame kinds (R182, table of kinds). -/
inductive FrameKind where
  | bandIssue | bandCredit | bandBar | bandVoid | bandReplace | bandQuery
  | classLoad | tariffLoad | scheduleLoad | controlLoad
  | zoneLoad | lockerSet | lockerQuery
  | cabinClassLoad | cabinSet | cabinQuery | queueQuery
  | headEnrol | headRemove | pollPlan | restart
  | watchSet | watchClear | alertFetch | alertPeek | alertClear
  | pause | resume
  | timeSet | openDay | dayClose | linesLoad | statusQuery
deriving DecidableEq, Repr

/-- A downstream command with its fields, as R175 lets it through to its owner: every length, reserved bit and
code the trunk itself checks is right; every other value is as it came. -/
inductive Command where
  | bandIssue (serial : Serial) (cls : Byte) (group credit : Option (BitVec 16))
  | bandCredit (serial : Serial) (amount : BitVec 16)
  | bandBar (serial : Serial) (on : Bool)
  | bandVoid (serial : Serial)
  | bandReplace (old new : Serial)
  | bandQuery (serial : Serial)
  | classLoad (cls holdLimit : Byte) (features : BitVec 4) (allowance : BitVec 16) (grace : Byte)
      (cabinMask : BitVec 4)
  | tariffLoad (set cls step : Byte) (price cap : BitVec 16)
  | scheduleLoad (periods : List (BitVec 16 × Byte))
  | controlLoad (tallyHold strikeLimit retries actuation replyTimeout : Byte)
  | zoneLoad (zone : Byte) (intake : BitVec 3) (fee classMask : BitVec 16) (mode : ZoneMode) (window : Byte)
      (autoRelock : Bool)
  | lockerSet (first last : BitVec 16) (action zone : Byte)
  | lockerQuery (first last : BitVec 16)
  | lockerQueryZone (zone : Byte)
  | cabinClassLoad (cls : Byte) (allowance extension : BitVec 16) (maxExtensions callWindow : Byte)
      (warning : BitVec 16) (blink : Byte)
  | cabinSet (cabin action cls : Byte)
  | cabinQuery (cabin : Byte)
  | queueQuery (cls : Byte)
  | headEnrol (spur address type parameter : Byte)
  | headRemove (spur address : Byte)
  | pollPlan (spur rate : Byte) (fast : List Byte)
  | restart (mask : BitVec 4)
  | watchSet (entry type mode : Byte) (target : BitVec 32)
  | watchClear (entry : Byte)
  | alertFetch
  | alertPeek (cls : Byte)
  | alertClear (mask : BitVec 8)
  | pause
  | resume
  | timeSet (minute : BitVec 16)
  | openDay
  | dayClose
  | linesLoad (l0 l1 l2 l3 l4 l5 : LineFunction × Bool)
  | statusQuery
deriving DecidableEq, Repr

/-- A door with a bolt (R72): a locker 0 to 1023 or a cabin 0 to 63. -/
inductive DoorId where
  | locker (n : Fin 1024)
  | cabin (n : Fin 64)
deriving DecidableEq, Repr

/-- A byte received on a spur, with the faults its status names (R157). -/
structure RxByte where
  value : Byte
  framing : Bool := false
  parity : Bool := false
  overrun : Bool := false
deriving DecidableEq, Repr

/-- A byte received on the trunk, and whether it came with a framing error (R173). -/
structure TrunkByte where
  value : Byte
  framing : Bool := false
deriving DecidableEq, Repr

/-- The station byte and the body of a downstream frame (R182). The kind is the row's; the length byte is the
body's length. A frame of a row other than DROPPED_FRAME stands for one whose CRC is right (log 4). -/
structure Frame where
  station : Byte
  body : List Byte
deriving DecidableEq, Repr

/-- The commands, in the order of spec/opcode_table.json. -/
inductive Instr where
  /-- Power-on or RESETN, with the levels of STN3 to STN0 (R20, R172). -/
  | coldReset (straps : BitVec 4)
  /-- Expiry of the minute timer (R185). -/
  | minuteEvent
  /-- A completed frame as it came off the line, its CRC included, judged by R174. -/
  | droppedFrame (kind : Byte) (f : Frame) (crc : BitVec 16)
  /-- Bytes of a frame, then a gap of more than 20 ms (R173). -/
  | trunkInterByteGap (bytes : List Byte)
  /-- A taken frame of the given kind code (R175). -/
  | unknownFrameKind (kind : Byte) (f : Frame)
  | bandIssue (f : Frame)
  | bandCredit (f : Frame)
  | bandBarOn (f : Frame)
  | bandBarOff (f : Frame)
  | bandVoid (f : Frame)
  | bandReplace (f : Frame)
  | bandQuery (f : Frame)
  | classLoad (f : Frame)
  | tariffLoad (f : Frame)
  | scheduleLoad (f : Frame)
  | controlLoad (f : Frame)
  | zoneLoad (f : Frame)
  | serviceOut (f : Frame)
  | serviceIn (f : Frame)
  | recheck (f : Frame)
  | lockerSetZone (f : Frame)
  | lockerQuery (f : Frame)
  | lockerQueryZone (f : Frame)
  | cabinClassLoad (f : Frame)
  | cabinSetClose (f : Frame)
  | cabinSetReopen (f : Frame)
  | cabinSetClass (f : Frame)
  | cabinQuery (f : Frame)
  | queueQuery (f : Frame)
  | headEnrol (f : Frame)
  | headRemove (f : Frame)
  | pollPlan (f : Frame)
  | restart (f : Frame)
  | watchSet (f : Frame)
  | watchClear (f : Frame)
  | alertFetch (f : Frame)
  | alertPeek (f : Frame)
  | alertClear (f : Frame)
  | pause (f : Frame)
  | resume (f : Frame)
  | timeSet (f : Frame)
  | openDay (f : Frame)
  | dayClose (f : Frame)
  | linesLoad (f : Frame)
  | statusQuery (f : Frame)
  /-- The last byte of a reply's last frame leaves the transmitter (R179). -/
  | replySent
  /-- The last byte of a record frame leaves the transmitter (R145). -/
  | recordSent
  /-- A step of the close walk (R189). -/
  | closeWalkStep
  /-- The final step of the close walk (R190). -/
  | closeWalkFinalStep
  /-- The stop bit of the poll frame's last character leaves (R155, R156). -/
  | pollFrameSent (spur : Fin 4)
  /-- The reply timeout expires before any byte (R156). -/
  | replyTimeout (spur : Fin 4)
  /-- Bytes of a reply, then a gap of more than four character times (R156). -/
  | replyCharacterGap (spur : Fin 4) (bytes : List RxByte)
  /-- Bytes whose first is not C3h, or whose length field is above the largest reply (R156). -/
  | replyAborted (spur : Fin 4) (bytes : List RxByte)
  /-- A complete reply (R157). -/
  | spurReply (spur : Fin 4) (bytes : List RxByte)
  /-- A TAP item from a LOCK head (R32). -/
  | lockerTap (spur : Fin 4) (address : Fin 32) (door : Fin 8) (serial : Serial)
  /-- A TAP item from a KIOSK head (R88). -/
  | kioskTap (spur : Fin 4) (address : Fin 32) (serial : Serial)
  /-- A TAP item of a CABIN head's outside reader (R103). -/
  | outsideReaderTap (spur : Fin 4) (address : Fin 32) (serial : Serial)
  /-- A TAP item of a CABIN head's inside reader (R112). -/
  | insideReaderTap (spur : Fin 4) (address : Fin 32) (serial : Serial)
  /-- A TAP item from an EXIT head (R133). -/
  | exitTap (spur : Fin 4) (address : Fin 32) (serial : Serial)
  /-- A DOOR item of a LOCK head (R52). -/
  | lockerDoorReport (spur : Fin 4) (address : Fin 32) (door : Fin 8) (state : Door)
  /-- A DOOR item of a CABIN head (R106). -/
  | cabinDoorReport (spur : Fin 4) (address : Fin 32) (state : Door)
  /-- A BOLT item (R76, R78); a cabin's bolt is door 0. -/
  | boltResult (spur : Fin 4) (address : Fin 32) (door : Fin 8) (direction : Direction) (outcome : BoltOutcome)
  /-- An attempt's deadline expires with no result (R77). -/
  | attemptDeadline (door : DoorId)
  /-- A STATUS item: head type, and door state and bolt position for each door index (R158, R160). -/
  | status (spur : Fin 4) (address : Fin 32) (type : HeadType) (doors : List (Door × Bolt))
  /-- A reserve deadline passes (R95). -/
  | reserveDeadline (locker : Fin 1024)
  /-- An entry deadline passes (R107). -/
  | entryDeadline (cabin : Fin 64)
  /-- A countdown reaches the latched warning (R110). -/
  | warningPoint (cabin : Fin 64)
  /-- A countdown reaches 0 (R110). -/
  | occupancyExpiry (cabin : Fin 64)
  /-- A call deadline passes (R115). -/
  | callDeadline (cabin : Fin 64)
  /-- The outside drives a line's pin to a level, high or low (R192). -/
  | lineChange (line : Fin 6) (high : Bool)
  /-- A line's settle timer expires (R192). -/
  | settleTimer (line : Fin 6)
  /-- Bytes of which the last abandons the frame: a framing error, or a length byte above 60 (R173). -/
  | trunkFrameAbandoned (bytes : List TrunkByte)
  /-- The last byte of a reply segment that is not the last leaves the transmitter (R179). -/
  | replySegmentSent
deriving DecidableEq, Repr

end Sys2Proof
end

