-- ==== Sys2Proof/Machine/State.lean ====
section
/-! DEFINITION. The state of the W316 as plain data: every table, setting, queue, latch, list and line the spec gives
it, the queue of waiting commands, and the state after reset. Moments are milliseconds on the model's clock (log 2).
Free slots, ABSENT lockers, cabins with no entry and UNENROLLED heads are the keys that are not listed. -/
namespace Sys2Proof.Machine

/-! ## Bands (01) -/

/-- ACTIVE, BARRED, DUE (R2). -/
inductive BandState where
  | active | barred | due
deriving DecidableEq, Repr

/-- The role of a cabin link (R7). -/
inductive CabinRole where
  | called | occupant
deriving DecidableEq, Repr

/-- The cabin a band has been called to or is using. -/
structure CabinLink where
  cabin : Fin 64
  role : CabinRole
deriving DecidableEq, Repr

/-- The class queue a band waits in, and its ticket. -/
structure QueueLink where
  cls : Fin 4
  ticket : Nat
deriving DecidableEq, Repr

/-- The exit minute held after EXIT_DUE and the last site minute at which it applies (R136). -/
structure FrozenExit where
  minute : Nat
  deadline : Nat
deriving DecidableEq, Repr

/-- A band record (01, "The band record"); its slot is its key in the Visit Table. -/
structure Band where
  serial : Serial
  state : BandState
  cls : Fin 16
  group : Nat
  entryMinute : Nat
  tariffSet : Fin 4
  credit : Nat
  fees : Nat
  holdings : List (Fin 1024)
  cabinLink : Option CabinLink
  queueLink : Option QueueLink
  strikes : Nat
  frozen : Option FrozenExit
deriving DecidableEq, Repr

/-! ## Tally Unit tables (01 R8, 07 R123) -/

/-- A tariff class descriptor (R8). -/
structure ClassDesc where
  holdLimit : Nat
  share : Bool
  extend : Bool
  staff : Bool
  strictExit : Bool
  allowance : Nat
  grace : Nat
  cabinMask : BitVec 4
deriving DecidableEq, Repr

/-- A tariff entry (R124). -/
structure Tariff where
  step : Nat
  price : Nat
  cap : Nat
deriving DecidableEq, Repr

/-- A period of the day schedule (R123). -/
structure Period where
  start : Nat
  set : Fin 4
deriving DecidableEq, Repr

/-- The device-wide control settings (R129). -/
structure Control where
  tallyHold : Nat
  strikeLimit : Nat
  retries : Nat
  actuation : Nat
  replyTimeout : Nat
deriving DecidableEq, Repr

/-! ## Doors and actions (03, 04) -/

/-- What a bolt movement is for (R72, R83). -/
inductive Purpose where
  | claim | relock | opening | staffOpen | admission | secure | reset | evac
deriving DecidableEq, Repr

/-- An action record (R72). -/
structure Action where
  direction : Direction
  purpose : Purpose
  holder : Option Serial
  requester : Option Serial
  attempt : Nat
  deadline : Nat
  slot : Bool
  orphaned : Bool
deriving DecidableEq, Repr

/-- The eight states of a locker that exists (R49). -/
inductive LockerState where
  | verify | vacant | reserved | locked | released | inspect | jammed | outOfService
deriving DecidableEq, Repr

/-- A locker entry (R49); its number is its key in the Locker Table. -/
structure Locker where
  state : LockerState
  zone : Fin 16
  holder : Option Serial
  door : Door
  bolt : Bolt
  reserveDeadline : Option Nat
  action : Option Action
deriving DecidableEq, Repr

/-- A zone descriptor (R59). -/
structure Zone where
  intake : Nat
  fee : Nat
  classMask : BitVec 16
  mode : ZoneMode
  window : Nat
  autoRelock : Bool
deriving DecidableEq, Repr

/-! ## Cabins (06) -/

/-- The eight cabin states (R99). -/
inductive CabinState where
  | disabled | free | called | admitting | occupied | overtime | vacating | evacuated
deriving DecidableEq, Repr

/-- The phase of an occupancy (R99). -/
inductive Phase where
  | outside | inside
deriving DecidableEq, Repr

/-- Work held back until the head's next matching STATUS (R119). -/
inductive StatusWait where
  | nothing | reopen | reset
deriving DecidableEq, Repr

/-- A lamp pattern (R111). -/
inductive Lamp where
  | off | steady
  | blink (p q : Nat)
deriving DecidableEq, Repr

/-- A cabin-class descriptor (R101), and the copy of one latched at admission (R99). -/
structure CabinParams where
  allowance : Nat
  extension : Nat
  maxExtensions : Nat
  callWindow : Nat
  warning : Nat
  blink : Nat
deriving DecidableEq, Repr

/-- A cabin entry (R99); its number is its key. `warningAt`, `expiryAt` and `overtimeSince` are the moments of the
countdown's two events and of the start of the overtime count (R110); while they are present the seconds are read off
them. `lamp` is the pattern last placed (R111); `spur` and `address` name the head the cabin was enrolled with. -/
structure Cabin where
  spur : Fin 4
  address : Fin 32
  cls : Fin 4
  state : CabinState
  band : Option Serial
  door : Door
  phase : Phase
  entered : Bool
  remaining : Nat
  warningAt : Option Nat
  expiryAt : Option Nat
  extensions : Nat
  overtime : Nat
  overtimeSince : Option Nat
  callDeadline : Option Nat
  entryDeadline : Option Nat
  deferred : Bool
  ticket : Option Nat
  statusWait : StatusWait
  latched : CabinParams
  slot : Bool
  lamp : Lamp
  action : Option Action
deriving DecidableEq, Repr

/-- An entry of a class queue (R102). -/
structure QueueEntry where
  serial : Serial
  ticket : Nat
  joinMinute : Nat
deriving DecidableEq, Repr

/-! ## Command lists and spurs (09) -/

/-- The reason codes of RED, in the order of R184. -/
inductive RedReason where
  | closed | unknownBand | staff | barred | evacuation | notHolder | outOfService | doorOpen | zoneShut | useKiosk
  | classExcluded | limit | inspect | noFree | inCabin | queuedElsewhere | queueFull | overtime | noExtend
  | lockerHeld | payDue
deriving DecidableEq, Repr

/-- The signal of a SHOW (R23): GREEN, RED with a reason (and an amount for PAY_DUE), AMBER alone, NUMBER, AMBER with
a ticket. -/
inductive Signal where
  | green
  | red (reason : RedReason) (amount : Nat)
  | amber
  | number (n : Nat)
  | ticket (n : Nat)
deriving DecidableEq, Repr

/-- An item of a head's outbound command list (R166). -/
inductive CmdItem where
  | showAt (reader : Fin 8) (signal : Signal)
  | actuate (door : Fin 8) (direction : Direction)
  | lamp (pattern : Lamp)
  | ident
  | gate
deriving DecidableEq, Repr

/-- The state of an enrolled head (R161). -/
inductive HeadState where
  | identifying | online | silent | mismatched
deriving DecidableEq, Repr

/-- A head's type with the parameter it was enrolled with (R161, R168). -/
inductive Enrolment where
  | lock (doors : Nat)
  | cabin (n : Fin 64)
  | kiosk (zone : Fin 16)
  | exit
deriving DecidableEq, Repr

/-- An entry of a head table (R161). `pendingSince` is the number of the event at which the head became due (log 8). -/
structure Head where
  state : HeadState
  enrolment : Enrolment
  misses : Nat
  more : Bool
  pendingSince : Option Nat
  identOwed : Bool
  items : List CmdItem
deriving DecidableEq, Repr

/-- The bit rates of a spur (R155). -/
inductive BitRate where
  | b9600 | b19200 | b38400 | b57600
deriving DecidableEq, Repr

/-- A poll round in progress (R163 to R165): the fast list it began with, its fast turns left, its promoted turns
left, and the heads it has polled. -/
structure Round where
  fast : List (Fin 32)
  fastLeft : List (Fin 32)
  promotedLeft : Nat
  polled : List (Fin 32)
deriving DecidableEq, Repr

/-- Where an exchange stands: its poll is being sent (driver on), its reply is awaited (receiver on), or the items of
its good reply are being handed on (R156, R158). -/
inductive ExchangePhase where
  | sending | awaiting | taking
deriving DecidableEq, Repr

/-- An exchange in progress (R156). `removed` marks that the head was removed during it (R158, R169; between two items of
its reply, log 39); `items` are the items of its good reply not yet handed on (log 7); `since` is the pending-since
moment the head had when it was polled, its old moment where the reply has its more flag set (R164, log 8). -/
structure Exchange where
  address : Fin 32
  phase : ExchangePhase
  rate : BitRate
  timeoutAt : Option Nat
  removed : Bool
  items : List ReplyItem
  since : Option Nat
deriving DecidableEq, Repr

/-- A spur port (09). -/
structure Spur where
  rate : BitRate
  fastList : List (Fin 32)
  cursor : Fin 32
  heads : List (Nat × Head)
  round : Option Round
  exchange : Option Exchange
  txFifo : List Byte
  rxFifo : List RxByte
deriving DecidableEq, Repr

/-! ## Records (08 R144) -/

/-- The fields of EXIT, EXIT_DUE and CLOSE (R139). -/
structure TallyFields where
  serial : Serial
  set : Fin 4
  cls : Fin 16
  exitMinute : Nat
  stay : Nat
  charge : Nat
  fees : Nat
  total : Nat
  credit : Nat
  due : Nat
deriving DecidableEq, Repr

/-- A record's kind with its fields (R144). `action` is CLAIM, RELOCK, OPEN or STAFF_OPEN, by the purpose. ABANDONED
holds the requester that R79 and R82 give every locker record; the layout of R183 has no place for it, so its frame
does not carry it (DESIGN CHOICE, log 30). -/
inductive RecordBody where
  | action (purpose : Purpose) (locker : Fin 1024) (holder requester : Option Serial) (orphaned : Bool)
  | giveUp (locker : Fin 1024) (serial : Serial)
  | failed (door : DoorId) (serial requester : Option Serial) (purpose : Purpose) (attempts : Nat) (orphaned : Bool)
  | abandoned (door : DoorId) (serial requester : Option Serial) (purpose : Purpose) (orphaned : Bool)
  | reserve (locker : Fin 1024) (serial : Serial) (window : Nat)
  | reserveLapsed (locker : Fin 1024) (serial : Option Serial)
  | cabinIn (cabin : Fin 64) (serial : Option Serial) (ticket : Option Nat)
  | cabinOut (cabin : Fin 64) (serial : Option Serial) (overtime extensions : Nat) (evac notEntered : Bool)
  | callLapsed (cabin : Fin 64) (serial : Option Serial) (ticket : Option Nat)
  | exit (t : TallyFields) (evac : Bool)
  | exitDue (t : TallyFields)
  | close (t : TallyFields)
  | dayClosed (closes : Nat)
deriving DecidableEq, Repr

/-- A record: the site minute at which it was written, and its kind and fields. -/
structure Record where
  minute : Nat
  body : RecordBody
deriving DecidableEq, Repr

/-- The Record Queue (R141). -/
structure RecordQueue where
  records : List Record
  reserved : Nat
  paused : Bool
deriving DecidableEq, Repr

/-! ## Alerts and watches (08 R147, R152) -/

/-- The eight alert classes, most urgent first (R147). -/
inductive AlertClass where
  | evacuation | forcedDoor | jammed | headFault | bandBarred | watchHit | inspect | cabinOverstay
deriving DecidableEq, Repr

/-- What an alert is about (R147, R183). -/
inductive AlertSubject where
  | band (serial : Serial)
  | locker (n : Fin 1024)
  | cabin (n : Fin 64)
  | head (spur : Fin 4) (address : Fin 32)
  | line (n : Fin 6)
deriving DecidableEq, Repr

/-- The detail of an INSPECT alert (R57). -/
inductive InspectCause where
  | removed | orphaned | found
deriving DecidableEq, Repr

/-- An alert's detail, by class (R147). -/
inductive AlertDetail where
  | asserted
  | lockerState (state : LockerState)
  | purpose (p : Purpose)
  | found
  | headState (state : HeadState)
  | strikes (n : Nat)
  | entry (n : Fin 8)
  | cause (c : InspectCause)
  | extensions (n : Nat)
deriving DecidableEq, Repr

/-- What a full latch holds (R147). -/
structure Notice where
  minute : Nat
  subject : AlertSubject
  detail : AlertDetail
deriving DecidableEq, Repr

/-- An alert latch (R147): empty or full, and its sequence number. -/
structure Latch where
  notice : Option Notice
  sequence : Nat
deriving DecidableEq, Repr

/-- A watch's target (R152). -/
inductive WatchTarget where
  | band (serial : Serial)
  | range (first last : Fin 1024)
deriving DecidableEq, Repr

/-- A watch's mode (R152). -/
inductive WatchMode where
  | note | hold
deriving DecidableEq, Repr

/-- A watch entry that is not clear (R152). -/
structure Watch where
  target : WatchTarget
  mode : WatchMode
  armed : Bool
deriving DecidableEq, Repr

/-! ## Site Clock and Lines (11) -/

/-- CLOSED, OPEN, CLOSING. -/
inductive DayState where
  | closed | opened | closing
deriving DecidableEq, Repr

/-- Whether the close walk has a step due, waits for a record to leave, or neither (R188, R189). -/
inductive Walk where
  | idle | due | waiting
deriving DecidableEq, Repr

/-- The Site Clock (R185 to R190) and the evacuation flag (R191). `minuteDue` is the moment of the minute timer's next
expiry; `closes` counts the CLOSE records of the walk. -/
structure SiteClock where
  minuteOfDay : Option Nat
  siteMinute : Nat
  minuteDue : Nat
  day : DayState
  cursor : Nat
  walk : Walk
  closes : Nat
  evacuation : Bool
deriving DecidableEq, Repr

/-- A local line (R191, R192): function, polarity, taken level (asserted), the level the outside holds at the pin, and
the moment its settle timer expires. -/
structure Line where
  function : LineFunction
  inverted : Bool
  taken : Bool
  high : Bool
  settle : Option Nat
deriving DecidableEq, Repr

/-! ## Replies and the Trunk Port (10) -/

/-- The refusal codes (R176), in the order of their codes. -/
inductive RefusalCode where
  | format | range | state | notFound | inUse | full | busy | clockUnset
deriving DecidableEq, Repr

/-- A band record as BAND_QUERY reports it (R19): slot, record, and for each held locker its state (absent if it does
not exist) and whether an action is in flight. -/
structure BandReport where
  slot : Nat
  band : Band
  lockers : List (Option LockerState × Bool)
deriving DecidableEq, Repr

/-- A locker as LOCKER_QUERY reports it (R69): state, zone, holder, door, bolt, seconds left of a reservation, and the
action's direction, purpose, attempt and orphaned mark. -/
structure LockerReport where
  state : LockerState
  zone : Fin 16
  holder : Option Serial
  door : Door
  bolt : Bolt
  secondsLeft : Option Nat
  action : Option (Direction × Purpose × Nat × Bool)
deriving DecidableEq, Repr

/-- One zone as LOCKER_QUERY reports it (R70): counts by state from VERIFY to OUT_OF_SERVICE. -/
structure ZoneReport where
  zone : Zone
  rotor : Fin 1024
  counts : List Nat
  inFlight : Nat
deriving DecidableEq, Repr

/-- A cabin as CABIN_QUERY reports it (R121): the entry, the seconds left of its countdown and deadlines, its overtime
seconds and its lamp. -/
structure CabinReport where
  number : Fin 64
  entry : Cabin
  remaining : Nat
  overtime : Nat
  callLeft : Option Nat
  entryLeft : Option Nat
deriving DecidableEq, Repr

/-- A class queue as QUEUE_QUERY reports it (R122). -/
structure QueueReport where
  entries : List QueueEntry
  ticket : Nat
  free : Nat
  deferred : Nat
deriving DecidableEq, Repr

/-- The whole part as STATUS_QUERY reports it (R193). `heads` counts, per spur, IDENTIFYING, ONLINE, SILENT and
MISMATCHED heads. -/
structure StatusReport where
  station : Fin 16
  day : DayState
  minuteOfDay : Option Nat
  siteMinute : Nat
  cursor : Nat
  waiting : Bool
  bands : Nat
  evacuation : Bool
  levels : List (Option Bool)
  paused : Bool
  records : Nat
  reserved : Nat
  attention : Nat
  heads : List (List Nat)
deriving DecidableEq, Repr

/-- The data of an ACCEPTED reply, as each owner's rule names them. -/
inductive ReplyData where
  | nothing
  | issued (slot entryMinute : Nat) (set : Fin 4)
  | credit (amount : Nat)
  | barred (state : BandState) (ended : Bool)
  | unbarred (state : BandState)
  | voided (slot inspected orphaned : Nat)
  | slot (n : Nat)
  | band (r : BandReport)
  | classDesc (d : ClassDesc)
  | tariff (t : Tariff)
  | schedule (count : Nat) (inForce : Option (Fin 4))
  | control (c : Control)
  | zone (z : Zone)
  | changed (n : Nat)
  | lockers (l : List (Option LockerReport))
  | zoneReport (r : ZoneReport)
  | cabinParams (p : CabinParams)
  | cabinState (s : CabinState)
  | cabin (r : CabinReport)
  | queue (r : QueueReport)
  | headState (s : HeadState)
  | plan (rate : BitRate) (fast : List (Fin 32))
  | restarted (heads actions : Nat)
  | watch (before : Option Watch)
  | alert (latch : Option (AlertClass × Latch))
  | attention (code : Nat)
  | records (paused : Bool) (queued reserved : Nat)
  | time (minuteOfDay siteMinute : Nat)
  | opened (minuteOfDay : Nat)
  | closing (bands siteMinute : Nat)
  | lines (l : List Line)
  | status (r : StatusReport)
deriving DecidableEq, Repr

/-- ACCEPTED with its data, or REFUSED with its code (R176). -/
inductive ReplyResult where
  | accepted (data : ReplyData)
  | refused (code : RefusalCode)
deriving DecidableEq, Repr

/-- A reply: the kind code of the frame it answers, and the answer (R176). -/
structure Reply where
  kind : Byte
  result : ReplyResult
deriving DecidableEq, Repr

/-- The phases of the receive assembly (R173). -/
inductive AssemblyPhase where
  | hunt | header | body | check
deriving DecidableEq, Repr

/-- The receive assembly: its phase, and the bytes stored since the start byte (R173). -/
structure Assembly where
  phase : AssemblyPhase
  buffer : List Byte
deriving DecidableEq, Repr

/-- The transmit arbiter (R180); a reply is being sent at the given segment, counted from 0. -/
inductive Arbiter where
  | idle
  | sendingReply (segment : Nat)
  | sendingRecord
deriving DecidableEq, Repr

/-- The Trunk Port (10). `txFrame` is the frame in the transmitter, empty when the line is at the stop level. -/
structure TrunkPort where
  station : Fin 16
  assembly : Assembly
  replies : List Reply
  frameNumber : BitVec 8
  arbiter : Arbiter
  txFrame : List Byte
deriving DecidableEq, Repr

/-! ## The whole part -/

/-- The state of the part: the queue of waiting commands, the model's event count and clock, and the blocks. -/
structure State where
  pending : List Instr
  eventNo : Nat
  now : Nat
  trunk : TrunkPort
  queue : RecordQueue
  alerts : Vector Latch 8
  watches : Vector (Option Watch) 8
  spurs : Vector Spur 4
  visit : List (Nat × Band)
  lockers : List (Nat × Locker)
  zones : Vector Zone 16
  rotors : Vector (Fin 1024) 16
  cabins : List (Nat × Cabin)
  cabinClasses : Vector CabinParams 4
  classQueues : Vector (List QueueEntry) 4
  tickets : Vector Nat 4
  classes : Vector ClassDesc 16
  tariffs : Vector (Vector Tariff 16) 4
  schedule : List Period
  control : Control
  clock : SiteClock
  lines : Vector Line 6
deriving DecidableEq, Repr

/-- Faults. None: the spec gives no event that stops the part, so no constructor is needed and nothing raises one
(log 24). -/
inductive Fault where
deriving DecidableEq, Repr

/-- Refusals. -/
inductive Refusal where
  /-- Raised by an arm of `exec` whose command has no meaning yet; none is left. Safe: the model stops where the
  hardware goes on. -/
  | notModelled (mnemonic : String)
deriving DecidableEq, Repr

/-- What the owner of a downstream command answers (R175, R176): the state it leaves with the reply's data, or a
refusal code, which changes nothing. -/
inductive Verdict where
  | accepted (s : State) (data : ReplyData)
  | refused (code : RefusalCode)
deriving DecidableEq, Repr

/-! ## Reset values -/

/-- A class descriptor after a cold reset (R8). -/
def ClassDesc.reset : ClassDesc := ⟨1, false, false, false, false, 0, 0, 0⟩

/-- A tariff entry after a cold reset (R124). -/
def Tariff.reset : Tariff := ⟨1, 0, 0⟩

/-- The control settings after a cold reset (R129). -/
def Control.reset : Control := ⟨10, 5, 1, 20, 20⟩

/-- A zone descriptor after a cold reset (R59). -/
def Zone.reset : Zone := ⟨0, 0, 0xFFFF, .rotate, 60, false⟩

/-- A cabin-class descriptor after a cold reset (R101). -/
def CabinParams.reset : CabinParams := ⟨600, 300, 0, 60, 60, 10⟩

/-- A spur port after a cold reset (R155, R157, R161, R163, R165). -/
def Spur.reset : Spur := ⟨.b19200, [], 31, [], none, none, [], []⟩

/-- A local line after a cold reset (R191), with the level the outside holds at its pin. -/
def Line.reset (high : Bool) : Line := ⟨.unmapped, false, false, high, none⟩

/-- The Trunk Port after a cold reset with the given station (R172, R173, R179 to R181). -/
def TrunkPort.reset (station : Fin 16) : TrunkPort := ⟨station, ⟨.hunt, []⟩, [], 0, .idle, []⟩

/-- The site clock after a cold reset at a moment (R185, R188, R191): the minute timer has just started. -/
def SiteClock.reset (now : Nat) : SiteClock := ⟨none, 0, now + 60000, .closed, 0, .idle, 0, false⟩

/-- The part right after a cold reset (R20, R71, R98, R123, R141, R147, R152, R161, R172, R185, R191), with the straps
at 0, every pin low and the model's clock and event count at 0 (DESIGN CHOICE, log 11). -/
def State.reset : State where
  pending := []
  eventNo := 0
  now := 0
  trunk := TrunkPort.reset 0
  queue := ⟨[], 0, false⟩
  alerts := Vector.replicate 8 ⟨none, 0⟩
  watches := Vector.replicate 8 none
  spurs := Vector.replicate 4 Spur.reset
  visit := []
  lockers := []
  zones := Vector.replicate 16 Zone.reset
  rotors := Vector.replicate 16 1023
  cabins := []
  cabinClasses := Vector.replicate 4 CabinParams.reset
  classQueues := Vector.replicate 4 []
  tickets := Vector.replicate 4 0
  classes := Vector.replicate 16 ClassDesc.reset
  tariffs := Vector.replicate 4 (Vector.replicate 16 Tariff.reset)
  schedule := [⟨0, 0⟩]
  control := Control.reset
  clock := SiteClock.reset 0
  lines := Vector.replicate 6 (Line.reset false)

end Sys2Proof.Machine
end

