-- ==== Sys2Proof/Machine/Operands.lean ====
section
/-! DEFINITION. The operand forms: numbers that name things, the wiring of locker numbers, and the clamping of loaded
fields. -/
namespace Sys2Proof.Machine

/-! ## Numbers that name things (R177: refused RANGE when out of range) -/

/-- A number below `n`, if it is one. -/
def below (n m : Nat) : Option (Fin n) := if h : m < n then some ⟨m, h⟩ else none

/-- A serial a band may carry: neither 0 nor FFFFFFFFh (R1). -/
def validSerial (serial : Serial) : Bool := serial != 0 && serial != 0xFFFFFFFF

/-- The head types, by code (R184). -/
def headTypeOf (code : Nat) : Option HeadType :=
  match code with
  | 0 => some .lock
  | 1 => some .cabin
  | 2 => some .kiosk
  | 3 => some .exit
  | _ => none

/-- An enrolment from its type and parameter, if the parameter is in its range for the type (R168). -/
def enrolmentOf (type : HeadType) (parameter : Nat) : Option Enrolment :=
  match type with
  | .lock => if 1 ≤ parameter ∧ parameter ≤ 8 then some (.lock parameter) else none
  | .cabin => (below 64 parameter).map .cabin
  | .kiosk => (below 16 parameter).map .kiosk
  | .exit => if parameter = 0 then some .exit else none

/-- The bit rates, by code (R182). -/
def rateOf (code : Nat) : Option BitRate :=
  match code with
  | 0 => some .b9600
  | 1 => some .b19200
  | 2 => some .b38400
  | 3 => some .b57600
  | _ => none

/-- The enrolled type of a head. -/
def Enrolment.type : Enrolment → HeadType
  | .lock _ => .lock
  | .cabin _ => .cabin
  | .kiosk _ => .kiosk
  | .exit => .exit

/-- The door count a matching STATUS carries (R160). -/
def Enrolment.doorCount : Enrolment → Nat
  | .lock n => n
  | .cabin _ => 1
  | .kiosk _ => 0
  | .exit => 0

/-! ## Where a locker is wired (00, R32, R49) -/

/-- The locker number of a door: spur × 256 + address × 8 + door index. -/
def lockerAt (spur : Fin 4) (address : Fin 32) (door : Fin 8) : Fin 1024 :=
  ⟨spur.val * 256 + address.val * 8 + door.val, by omega⟩

/-- The spur a locker number is wired to. -/
def lockerSpur (n : Fin 1024) : Fin 4 := ⟨n.val / 256, by omega⟩

/-- The head address a locker number is wired to. -/
def lockerAddress (n : Fin 1024) : Fin 32 := ⟨n.val % 256 / 8, by omega⟩

/-- The door index a locker number is wired to. -/
def lockerDoor (n : Fin 1024) : Fin 8 := ⟨n.val % 8, by omega⟩

/-! ## Clamping (00, "Clamped, saturated, refused") -/

/-- A value taken as the nearest end of its range. -/
def clamp (lo hi n : Nat) : Nat := min hi (max lo n)

/-- A sum that saturates at 65,535. -/
def satAdd (a b : Nat) : Nat := min (a + b) 65535

/-- A class descriptor with its fields clamped (R8). The features are SHARE bit 0, EXTEND bit 1, STAFF bit 2 and
STRICT_EXIT bit 3 (R182). -/
def ClassDesc.load (holdLimit : Byte) (features : BitVec 4) (allowance : BitVec 16) (grace : Byte)
    (cabinMask : BitVec 4) : ClassDesc where
  holdLimit := clamp 1 2 holdLimit.toNat
  share := features.getLsbD 0
  extend := features.getLsbD 1
  staff := features.getLsbD 2
  strictExit := features.getLsbD 3
  allowance := clamp 0 1023 allowance.toNat
  grace := clamp 0 63 grace.toNat
  cabinMask := cabinMask

/-- A tariff entry with its fields clamped (R124). -/
def Tariff.load (step : Byte) (price cap : BitVec 16) : Tariff where
  step := clamp 1 120 step.toNat
  price := clamp 0 9999 price.toNat
  cap := cap.toNat

/-- The strike limit as loaded: 0 is off, 1 and 2 are taken as 3, above 7 as 7 (R11). -/
def clampStrikeLimit (n : Nat) : Nat := if n = 0 then 0 else clamp 3 7 n

/-- The control settings with their fields clamped (R129). -/
def Control.load (tallyHold strikeLimit retries actuation replyTimeout : Byte) : Control where
  tallyHold := clamp 0 60 tallyHold.toNat
  strikeLimit := clampStrikeLimit strikeLimit.toNat
  retries := clamp 0 3 retries.toNat
  actuation := clamp 5 50 actuation.toNat
  replyTimeout := clamp 2 50 replyTimeout.toNat

/-- A zone descriptor with its fields clamped (R59). -/
def Zone.load (intake : BitVec 3) (fee classMask : BitVec 16) (mode : ZoneMode) (window : Byte)
    (autoRelock : Bool) : Zone where
  intake := clamp 0 3 intake.toNat
  fee := clamp 0 9999 fee.toNat
  classMask := classMask
  mode := mode
  window := clamp 10 255 window.toNat
  autoRelock := autoRelock

/-- A cabin-class descriptor with its fields clamped (R101): the warning at most 300 and at most the clamped
allowance. -/
def CabinParams.load (allowance extension : BitVec 16) (maxExtensions callWindow : Byte) (warning : BitVec 16)
    (blink : Byte) : CabinParams where
  allowance := clamp 60 3600 allowance.toNat
  extension := clamp 60 1800 extension.toNat
  maxExtensions := clamp 0 3 maxExtensions.toNat
  callWindow := clamp 15 120 callWindow.toNat
  warning := min (clamp 0 300 warning.toNat) (clamp 60 3600 allowance.toNat)
  blink := clamp 2 40 blink.toNat

/-- The latched parameters of a cabin that has admitted nobody yet (DESIGN CHOICE, log 10). -/
def CabinParams.blank : CabinParams := ⟨0, 0, 0, 0, 0, 0⟩

end Sys2Proof.Machine
end

