-- ==== Sys2Proof/Machine/Flags.lean ====
section
/-! DEFINITION. What is computed from the state and never stored beside it: the attention code, the sum, the tariff
set in force, countdowns, lamp patterns, output levels, driver enables and due heads. -/
namespace Sys2Proof.Machine

/-! ## Record Queue and alerts -/

/-- Records queued plus reserved slots (R141). -/
def RecordQueue.sum (q : RecordQueue) : Nat := q.records.length + q.reserved

/-- The class number of an alert class, which is its priority (R147). -/
def AlertClass.number : AlertClass → Nat
  | .evacuation => 1 | .forcedDoor => 2 | .jammed => 3 | .headFault => 4
  | .bandBarred => 5 | .watchHit => 6 | .inspect => 7 | .cabinOverstay => 8

/-- The eight classes, most urgent first. -/
def AlertClass.all : List AlertClass :=
  [.evacuation, .forcedDoor, .jammed, .headFault, .bandBarred, .watchHit, .inspect, .cabinOverstay]

/-- The place of a class among the latches. -/
def AlertClass.index (c : AlertClass) : Fin 8 := ⟨c.number - 1, by cases c <;> decide⟩

/-- The latch of a class. -/
def State.latch (s : State) (c : AlertClass) : Latch := s.alerts[c.index]

/-- The highest-priority class whose latch is full (R148). -/
def State.topAlert (s : State) : Option AlertClass :=
  AlertClass.all.find? (fun c => (s.latch c).notice.isSome)

/-- The attention code (R148): that class's number, or 0 when every latch is empty. -/
def State.attention (s : State) : Nat :=
  match s.topAlert with
  | some c => c.number
  | none => 0

/-! ## The day schedule -/

/-- The set of the last period whose start is at or below `m`. -/
def lastAtOrBelow (m : Nat) : List Period → Option (Fin 4)
  | [] => none
  | p :: rest =>
    match lastAtOrBelow m rest with
    | some k => some k
    | none => if p.start ≤ m then some p.set else none

/-- The tariff set in force at a minute of day (R125): if `m` is below every start, the last period's set. -/
def setInForce (schedule : List Period) (m : Nat) : Fin 4 :=
  match lastAtOrBelow m schedule with
  | some k => k
  | none => match schedule.getLast? with
    | some p => p.set
    | none => 0

/-- The tariff set a BAND_ISSUE latches (R127). -/
def State.issueSet (s : State) : Fin 4 :=
  match s.clock.minuteOfDay with
  | some m => setInForce s.schedule m
  | none => Config.setWithClockUnset s.clock.siteMinute

/-! ## Countdowns and lamps -/

/-- Whole seconds from a moment to a later one, rounded up. -/
def secondsLeft (now deadline : Nat) : Nat := (deadline - now + 999) / 1000

/-- The remaining seconds of a countdown at a moment (R110): read off its expiry while it runs. -/
def Cabin.remainingAt (c : Cabin) (now : Nat) : Nat :=
  match c.expiryAt with
  | some t => secondsLeft now t
  | none => c.remaining

/-- The overtime seconds at a moment (R110): whole seconds, saturating at 65,535. -/
def Cabin.overtimeAt (c : Cabin) (now : Nat) : Nat :=
  match c.overtimeSince with
  | some t => min ((now - t) / 1000) 65535
  | none => c.overtime

/-- The blinking pattern of a latched blink period B (R111): B div 2 tenths on, the rest off. -/
def CabinParams.pattern (p : CabinParams) : Lamp := .blink (p.blink / 2) (p.blink - p.blink / 2)

/-- The pattern a cabin calls for (R111). -/
def Cabin.pattern (c : Cabin) (now : Nat) : Lamp :=
  match c.state with
  | .occupied => if c.latched.warning < c.remainingAt now then .steady else c.latched.pattern
  | .overtime => c.latched.pattern
  | _ => .off

/-! ## Lines -/

/-- Whether a function is an input's (R191). -/
def isInput : LineFunction → Bool
  | .unmapped | .evacIn | .closeKey => true
  | .attentionOut | .evacOut | .backpressureOut => false

/-- Whether the level at an input's pin is the asserted one (R191): high with normal polarity, low with inverted. -/
def Line.pinAsserted (l : Line) : Bool := l.high != l.inverted

/-- Whether the condition an output line follows holds (R191). -/
def State.outputAsserted (s : State) : LineFunction → Bool
  | .attentionOut => s.attention != 0
  | .evacOut => s.clock.evacuation
  | .backpressureOut => Config.backpressure ≤ s.queue.sum
  | _ => false

/-- The level the part drives at a line's pin, high or low; absent for an input, whose pin is not driven (R191). -/
def State.outputHigh (s : State) (i : Fin 6) : Option Bool :=
  let l := s.lines[i]
  if isInput l.function then none else some (s.outputAsserted l.function != l.inverted)

/-! ## Spur ports and heads -/

/-- The line driver is on while a poll frame is being sent (R155). -/
def Spur.driverOn (p : Spur) : Bool := p.exchange.any (fun e => e.phase == .sending)

/-- The receiver is on while a reply is awaited (R155, R156). -/
def Spur.receiverOn (p : Spur) : Bool := p.exchange.any (fun e => e.phase == .awaiting)

/-- A head that fast slots, promotion and carried items are for (R161): IDENTIFYING or ONLINE. -/
def Head.active (h : Head) : Bool := h.state == .identifying || h.state == .online

/-- A head due for promotion (R164, R166): active, with an item, an owed IDENT or its more flag. -/
def Head.due (h : Head) : Bool := h.active && (!h.items.isEmpty || h.more || h.identOwed)

end Sys2Proof.Machine
end

