-- ==== Sys2Proof/Machine/Table.lean ====
section
/-! DEFINITION. Sparse tables: lists of key and value with strictly rising keys. An unlisted key is a free slot, an
ABSENT locker, a cabin with no entry or an UNENROLLED head. -/
namespace Sys2Proof.Machine.Table

/-- The value at a key. -/
def get? {α : Type} (k : Nat) : List (Nat × α) → Option α
  | [] => none
  | (j, x) :: rest => if j = k then some x else get? k rest

/-- The table with a value at a key, in the place the key's order gives it. -/
def put {α : Type} (k : Nat) (x : α) : List (Nat × α) → List (Nat × α)
  | [] => [(k, x)]
  | (j, y) :: rest =>
    if k < j then (k, x) :: (j, y) :: rest
    else if k = j then (k, x) :: rest
    else (j, y) :: put k x rest

/-- The table without a key. -/
def drop {α : Type} (k : Nat) : List (Nat × α) → List (Nat × α)
  | [] => []
  | (j, y) :: rest => if j = k then rest else (j, y) :: drop k rest

/-- Every key of the table is at least `lo`, and the keys rise strictly. -/
def wfFrom {α : Type} (lo : Nat) : List (Nat × α) → Bool
  | [] => true
  | (j, _) :: rest => decide (lo ≤ j) && wfFrom (j + 1) rest

/-- The canonical form: the keys rise strictly. -/
def wf {α : Type} (t : List (Nat × α)) : Bool := wfFrom 0 t

/-- The lowest key from `k` on that is not listed. -/
def firstFree {α : Type} (k : Nat) : List (Nat × α) → Nat
  | [] => k
  | (j, _) :: rest => if j = k then firstFree (k + 1) rest else k

/-- The first entry whose key is at least `k`. -/
def firstFrom {α : Type} (k : Nat) : List (Nat × α) → Option (Nat × α)
  | [] => none
  | (j, x) :: rest => if k ≤ j then some (j, x) else firstFrom k rest

end Sys2Proof.Machine.Table
end

