-- ==== Sys2Proof/Machine/Ops.lean ====
section
/-! DEFINITION. The shared operations over the state: tables, the passing of time, the five requests to the Record
Queue, alerts, command lists, door actions and their attempts. -/
namespace Sys2Proof.Machine

/-! ## Tables -/

/-- The band record in a slot. -/
def State.band? (s : State) (slot : Nat) : Option Band := Table.get? slot s.visit

/-- The slot and record of the present band with a serial (R1). -/
def State.findBand (s : State) (serial : Serial) : Option (Nat × Band) :=
  s.visit.find? (fun e => e.2.serial == serial)

/-- The state with a band record in a slot. -/
def State.putBand (s : State) (slot : Nat) (b : Band) : State := { s with visit := Table.put slot b s.visit }

/-- The state with a slot free. -/
def State.dropBand (s : State) (slot : Nat) : State := { s with visit := Table.drop slot s.visit }

/-- The record in a slot changed, if there is one. -/
def State.modBand (s : State) (slot : Nat) (f : Band → Band) : State :=
  match s.band? slot with
  | some b => s.putBand slot (f b)
  | none => s

/-- The record of a serial changed, if that band is present. -/
def State.modSerial (s : State) (serial : Option Serial) (f : Band → Band) : State :=
  match serial with
  | none => s
  | some x => match s.findBand x with
    | some (slot, _) => s.modBand slot f
    | none => s

/-- The entry of a locker, absent if the locker is ABSENT. -/
def State.locker? (s : State) (n : Fin 1024) : Option Locker := Table.get? n.val s.lockers

/-- The state with a locker entry. -/
def State.putLocker (s : State) (n : Fin 1024) (l : Locker) : State :=
  { s with lockers := Table.put n.val l s.lockers }

/-- The state with a locker ABSENT. -/
def State.dropLocker (s : State) (n : Fin 1024) : State := { s with lockers := Table.drop n.val s.lockers }

/-- A locker entry changed, if the locker exists. -/
def State.modLocker (s : State) (n : Fin 1024) (f : Locker → Locker) : State :=
  match s.locker? n with
  | some l => s.putLocker n (f l)
  | none => s

/-- The entry of a cabin, if it has one. -/
def State.cabin? (s : State) (n : Fin 64) : Option Cabin := Table.get? n.val s.cabins

/-- The state with a cabin entry. -/
def State.putCabin (s : State) (n : Fin 64) (c : Cabin) : State := { s with cabins := Table.put n.val c s.cabins }

/-- The state with a cabin entry deleted. -/
def State.dropCabin (s : State) (n : Fin 64) : State := { s with cabins := Table.drop n.val s.cabins }

/-- A cabin entry changed, if there is one. -/
def State.modCabin (s : State) (n : Fin 64) (f : Cabin → Cabin) : State :=
  match s.cabin? n with
  | some c => s.putCabin n (f c)
  | none => s

/-- The numbers of the lockers that exist, ascending. -/
def State.lockerNumbers (s : State) : List (Fin 1024) := s.lockers.filterMap (fun e => below 1024 e.1)

/-- The numbers of the cabins that have an entry, ascending. -/
def State.cabinNumbers (s : State) : List (Fin 64) := s.cabins.filterMap (fun e => below 64 e.1)

/-- A spur port. -/
def State.spur (s : State) (sp : Fin 4) : Spur := s.spurs[sp]

/-- The state with a spur port. -/
def State.putSpur (s : State) (sp : Fin 4) (p : Spur) : State := { s with spurs := s.spurs.set sp.val p }

/-- The entry of an enrolled head, absent if the address is UNENROLLED. -/
def State.head? (s : State) (sp : Fin 4) (a : Fin 32) : Option Head := Table.get? a.val (s.spur sp).heads

/-- A head entry with its pending-since moment kept in step (R164): set in the event in which the head becomes due, kept
while it stays due, cleared when it is due no more. The moment of a head whose list a poll has emptied is restored by a
reply that has its more flag set (`Head.goodReply`, log 8). -/
def Head.refresh (eventNo : Nat) (h : Head) : Head :=
  { h with pendingSince := if h.due then some (h.pendingSince.getD eventNo) else none }

/-- The state with a head entry. -/
def State.putHead (s : State) (sp : Fin 4) (a : Fin 32) (h : Head) : State :=
  let p := s.spur sp
  s.putSpur sp { p with heads := Table.put a.val (h.refresh s.eventNo) p.heads }

/-- A head entry changed, if the head is enrolled. -/
def State.modHead (s : State) (sp : Fin 4) (a : Fin 32) (f : Head → Head) : State :=
  match s.head? sp a with
  | some h => s.putHead sp a (f h)
  | none => s

/-- The state with an address UNENROLLED. -/
def State.dropHead (s : State) (sp : Fin 4) (a : Fin 32) : State :=
  let p := s.spur sp
  s.putSpur sp { p with heads := Table.drop a.val p.heads }

/-- The queue of a cabin class. -/
def State.classQueue (s : State) (k : Fin 4) : List QueueEntry := s.classQueues[k]

/-- The state with the queue of a cabin class. -/
def State.putClassQueue (s : State) (k : Fin 4) (q : List QueueEntry) : State :=
  { s with classQueues := s.classQueues.set k.val q }

/-- The class descriptor of a band (R9). -/
def State.classOf (s : State) (b : Band) : ClassDesc := s.classes[b.cls]

/-- The tariff entry for a band's latched set and its class (R133). -/
def State.tariffOf (s : State) (b : Band) : Tariff := (s.tariffs[b.tariffSet])[b.cls]

/-! ## Time -/

/-- The present moment is no earlier than `t` (log 2). -/
def State.passTo (s : State) (t : Nat) : State := { s with now := max s.now t }

/-! ## The Record Queue's five requests (R142) -/

/-- A record stamped with the site minute as it stands (R144). -/
def State.stamp (s : State) (b : RecordBody) : Record := ⟨s.clock.siteMinute, b⟩

/-- Write: granted while the sum is below 128. -/
def State.write? (s : State) (b : RecordBody) : Option State :=
  if s.queue.sum < Config.recordPlaces then
    some { s with queue := { s.queue with records := s.queue.records ++ [s.stamp b] } }
  else none

/-- Reserve: granted while the sum is below 128. -/
def State.reserve? (s : State) : Option State :=
  if s.queue.sum < Config.recordPlaces then
    some { s with queue := { s.queue with reserved := s.queue.reserved + 1 } }
  else none

/-- Write and reserve together: granted while the sum is at most 126. -/
def State.writeReserve? (s : State) (b : RecordBody) : Option State :=
  if s.queue.sum + 2 ≤ Config.recordPlaces then
    some { s with queue := { s.queue with records := s.queue.records ++ [s.stamp b]
                                          reserved := s.queue.reserved + 1 } }
  else none

/-- Convert: a reservation becomes a record at the tail. With no reservation held there is none to convert (log 14). -/
def State.convert (s : State) (b : RecordBody) : State :=
  if 0 < s.queue.reserved then
    { s with queue := { s.queue with records := s.queue.records ++ [s.stamp b]
                                     reserved := s.queue.reserved - 1 } }
  else s

/-- Release: a reservation is given up with no record. -/
def State.release (s : State) : State := { s with queue := { s.queue with reserved := s.queue.reserved - 1 } }

/-! ## Alerts (R147) -/

/-- The state with the latch of a class. -/
def State.putLatch (s : State) (c : AlertClass) (l : Latch) : State :=
  { s with alerts := s.alerts.set c.index.val l }

/-- A notice is written: the latch becomes full with it, and its sequence number rises by 1 modulo 8. -/
def State.alert (s : State) (c : AlertClass) (subject : AlertSubject) (detail : AlertDetail) : State :=
  s.putLatch c ⟨some ⟨s.clock.siteMinute, subject, detail⟩, ((s.latch c).sequence + 1) % 8⟩

/-! ## Command lists (R166, R167) -/

/-- Two items of which a later one takes the place of an unsent earlier one: a SHOW of the same reader, an ACTUATE of
the same door, a LAMP, an IDENT, a GATE. -/
def CmdItem.replaces : CmdItem → CmdItem → Bool
  | .showAt r _, .showAt r' _ => r == r'
  | .actuate d _, .actuate d' _ => d == d'
  | .lamp _, .lamp _ => true
  | .ident, .ident => true
  | .gate, .gate => true
  | _, _ => false

/-- An item placed in a list: in the place of one it replaces, else at the tail. An IDENT that finds 16 items and no
IDENT is owed. Another item that finds 16 items with an IDENT among them takes a place by making the IDENT owed
(DESIGN CHOICE, log 9). -/
def Head.place (h : Head) (it : CmdItem) : Head :=
  if h.items.any it.replaces then
    { h with items := h.items.map (fun x => if it.replaces x then it else x) }
  else if h.items.length < Config.commandItems then { h with items := h.items ++ [it] }
  else if it == .ident then { h with identOwed := true }
  else if h.items.contains .ident then { h with items := h.items.erase .ident ++ [it], identOwed := true }
  else h

/-- An owed IDENT is placed at the tail, an item having left the list (R166). -/
def Head.payOwed (h : Head) : Head :=
  if h.identOwed && h.items.length < Config.commandItems then
    { h with items := h.items ++ [.ident], identOwed := false }
  else h

/-- An unsent ACTUATE for a door is withdrawn (R79, R166). -/
def Head.withdraw (h : Head) (door : Fin 8) : Head :=
  let kept := h.items.filter (fun x => !(CmdItem.actuate door .throw).replaces x)
  if kept.length < h.items.length then { h with items := kept }.payOwed else h

/-- The items a poll of the head carries (R161, R167): the oldest four of an active head, none of another. -/
def Head.carried (h : Head) : List CmdItem := if h.active then h.items.take Config.pollItems else []

/-- The head after a poll has carried its items out (R166, R167). -/
def Head.afterPoll (h : Head) : Head :=
  if h.carried.isEmpty then h else { h with items := h.items.drop Config.pollItems }.payOwed

/-- An item is placed in a head's list. -/
def State.place (s : State) (sp : Fin 4) (a : Fin 32) (it : CmdItem) : State := s.modHead sp a (·.place it)

/-- The answer of a tap: SHOW(reader, signal) at the head that reported it (R23). -/
def State.answer (s : State) (sp : Fin 4) (a : Fin 32) (reader : Fin 8) (signal : Signal) : State :=
  s.place sp a (.showAt reader signal)

/-! ## Doors and their actions (R72 to R75, R79) -/

/-- The action in flight at a door. -/
def State.action? (s : State) : DoorId → Option Action
  | .locker n => (s.locker? n).bind Locker.action
  | .cabin n => (s.cabin? n).bind Cabin.action

/-- The state with the action record of a door. -/
def State.setAction (s : State) (d : DoorId) (a : Option Action) : State :=
  match d with
  | .locker n => s.modLocker n (fun l => { l with action := a })
  | .cabin n => s.modCabin n (fun c => { c with action := a })

/-- The head that serves a door, and the door's index on it; a cabin's bolt is door 0 (R75, R184). -/
def State.doorHome (s : State) : DoorId → Option (Fin 4 × Fin 32 × Fin 8)
  | .locker n => some (lockerSpur n, lockerAddress n, lockerDoor n)
  | .cabin n => (s.cabin? n).map (fun c => (c.spur, c.address, 0))

/-- The door field of a door. -/
def State.doorField (s : State) : DoorId → Door
  | .locker n => match s.locker? n with
    | some l => l.door
    | none => .unknown
  | .cabin n => match s.cabin? n with
    | some c => c.door
    | none => .unknown

/-- An unsent ACTUATE of a door is withdrawn from its head's list (R79). -/
def State.withdraw (s : State) (d : DoorId) : State :=
  match s.doorHome d with
  | some (sp, a, i) => s.modHead sp a (·.withdraw i)
  | none => s

/-- An attempt starts (R75): ACTUATE is placed at the door's head and the deadline is set to now plus the actuation
timeout. -/
def State.startAttempt (s : State) (d : DoorId) (a : Action) : State :=
  let s1 := s.setAction d (some { a with deadline := s.now + s.control.actuation * 100 })
  match s.doorHome d with
  | some (sp, addr, i) => s1.place sp addr (.actuate i a.direction)
  | none => s1

/-- An action is handed over (R74): the record is created with attempt 1, not orphaned, and its first attempt
starts. -/
def State.handOver (s : State) (d : DoorId) (direction : Direction) (purpose : Purpose)
    (holder requester : Option Serial) (slot : Bool) : State :=
  s.startAttempt d ⟨direction, purpose, holder, requester, 1, 0, slot, false⟩

/-- An action ends (R79): its unsent ACTUATE is withdrawn, its deadline cancelled, its record discarded. -/
def State.endAction (s : State) (d : DoorId) : State := (s.withdraw d).setAction d none

end Sys2Proof.Machine
end

