-- ==== Sys2Proof/Machine/CabinUnit.lean ====
section
/-! DEFINITION. The Cabin Unit (06): links, lamps, timers, the call step, admission, and the endings of cabin actions.
Reader 0 of a CABIN head is OUTSIDE, reader 1 INSIDE (R184). -/
namespace Sys2Proof.Machine

/-! ## Links (R7) -/

/-- The clear-cabin-link step for the band a cabin names. -/
def State.clearCabinLink (s : State) (serial : Option Serial) : State :=
  s.modSerial serial (fun b => { b with cabinLink := none })

/-- The entry of a band leaves a class queue, the entries behind it closing up (R102). -/
def State.leaveQueue (s : State) (k : Fin 4) (serial : Serial) : State :=
  s.putClassQueue k ((s.classQueue k).filter (fun e => e.serial != serial))

/-! ## Lamps and countdowns (R110, R111) -/

/-- LAMP with the pattern the cabin calls for is placed at its head. -/
def State.placeLamp (s : State) (n : Fin 64) : State :=
  match s.cabin? n with
  | some c => (s.putCabin n { c with lamp := c.pattern s.now }).place c.spur c.address (.lamp (c.pattern s.now))
  | none => s

/-- LAMP is placed if the pattern has changed (R111). -/
def State.followLamp (s : State) (n : Fin 64) : State :=
  match s.cabin? n with
  | some c => if c.pattern s.now = c.lamp then s else s.placeLamp n
  | none => s

/-- A countdown of `secs` seconds starts: its expiry, and its warning point if the latched warning is above 0 and the
countdown begins above it (R110). -/
def Cabin.countdown (c : Cabin) (now secs : Nat) : Cabin :=
  { c with remaining := secs
           expiryAt := some (now + secs * 1000)
           warningAt := if 0 < c.latched.warning ∧ c.latched.warning < secs
             then some (now + (secs - c.latched.warning) * 1000) else none }

/-- The countdown and the overtime count stop at their present values, with the countdown's events and the entry
deadline cancelled (R107, R108, R110). -/
def Cabin.stopClock (c : Cabin) (now : Nat) : Cabin :=
  { c with remaining := c.remainingAt now, overtime := c.overtimeAt now
           warningAt := none, expiryAt := none, overtimeSince := none, entryDeadline := none }

/-! ## The call step (R113) -/

/-- The call step for a cabin. -/
def State.callStep (s : State) (n : Fin 64) : State :=
  match s.cabin? n with
  | none => s
  | some c =>
    if c.state ≠ .free then s
    else match s.classQueue c.cls with
      | [] => s.putCabin n { c with deferred := false }
      | e :: rest =>
        if s.clock.evacuation = true ∨ s.clock.day ≠ .opened then s.putCabin n { c with deferred := false }
        else match s.reserve? with
          | none => s.putCabin n { c with deferred := true }
          | some s1 =>
            let c' := { c with state := .called, band := some e.serial, ticket := some e.ticket, slot := true
                               callDeadline := some (s1.now + s1.cabinClasses[c.cls].callWindow * 1000)
                               deferred := false }
            (((s1.putClassQueue c.cls rest).putCabin n c').modSerial (some e.serial)
              (fun b => { b with cabinLink := some ⟨n, .called⟩, queueLink := none })).answer c.spur c.address 0
                (.number e.ticket)

/-- A cabin becomes EVACUATED and is handed a RETRACT with purpose EVAC (R116, R119). -/
def State.evacuateIdle (s : State) (n : Fin 64) : State :=
  (s.modCabin n (fun c => { c with state := .evacuated })).handOver (.cabin n) .retract .evac none none false

/-- A cabin becomes FREE with no band and no ticket and the call step runs; while the evacuation flag is set it becomes
EVACUATED instead (R116: "While the evacuation flag is set, every cabin not DISABLED is EVACUATED"; R119). -/
def State.freeUp (s : State) (n : Fin 64) : State :=
  let s := s.modCabin n (fun c => { c with band := none, ticket := none, slot := false })
  if s.clock.evacuation then s.evacuateIdle n
  else (s.modCabin n (fun c => { c with state := .free })).callStep n

/-- A call ends without admission (R115): CALL_LAPSED, the link cleared, the cabin FREE, the call step. -/
def State.lapseCall (s : State) (n : Fin 64) : State :=
  match s.cabin? n with
  | none => s
  | some c =>
    if c.state ≠ .called then s
    else (((s.convert (.callLapsed n c.band c.ticket)).clearCabinLink c.band).modCabin n
      (fun c => { c with callDeadline := none })).freeUp n

/-- The lowest-numbered FREE cabin of a class that is not deferred (R103). -/
def State.callableCabin (s : State) (k : Fin 4) : Option (Fin 64) :=
  s.cabinNumbers.find? (fun n => (s.cabin? n).any (fun c => c.state == .free && c.cls == k && !c.deferred))

/-- The FREE cabins with call deferred set, ascending (R114). -/
def State.deferredCabins (s : State) : List (Fin 64) :=
  s.cabinNumbers.filter (fun n => (s.cabin? n).any (fun c => c.state == .free && c.deferred))

/-! ## Admission (R104) -/

/-- A band is admitted at a cabin on a place already held. -/
def State.letIn (s : State) (n : Fin 64) (c : Cabin) (slot : Nat) (b : Band) : State :=
  let c' := { c with state := .admitting, band := some b.serial, slot := true, callDeadline := none, deferred := false
                     ticket := if c.state = .called then c.ticket else none
                     latched := s.cabinClasses[c.cls] }
  (((s.putCabin n c').modBand slot
    (fun b => { b with cabinLink := some ⟨n, .occupant⟩, queueLink := none, strikes := 0 })).answer c.spur c.address 0
      .green).handOver (.cabin n) .retract .admission none none true

/-! ## The endings of cabin actions (R105, R106, R109, R117 to R119) -/

/-- The CABIN_OUT record of a cabin as it stands (R100). -/
def State.cabinOut (s : State) (n : Fin 64) (c : Cabin) (evac : Bool) : RecordBody :=
  .cabinOut n c.band (c.overtimeAt s.now) c.extensions evac (!c.entered)

/-- A cabin becomes DISABLED with no band, ticket, place or deadline, and the JAMMED alert names the purpose. -/
def State.jamCabin (s : State) (n : Fin 64) (p : Purpose) : State :=
  (s.modCabin n (fun c => { c with state := .disabled, band := none, ticket := none, slot := false })).alert
    .jammed (.cabin n) (.purpose p)

/-- The completion of an ADMIT (R105): OCCUPIED, the countdown and the entry deadline set, the lamp, and CABIN_IN where
a place is free. -/
def State.occupy (s : State) (n : Fin 64) (c : Cabin) : State :=
  let c' := ({ c with state := .occupied, phase := .outside, entered := false, extensions := 0, overtime := 0
                      overtimeSince := none, ticket := none
                      entryDeadline := some (s.now + c.latched.callWindow * 1000) }).countdown s.now c.latched.allowance
  let s1 := (s.putCabin n c').followLamp n
  match s1.reserve? with
  | some s2 => s2.convert (.cabinIn n c.band c.ticket)
  | none => s1

/-- A completed cabin action acts by its purpose; the action itself has ended. -/
def State.completeCabin (s : State) (n : Fin 64) (a : Action) : State :=
  match s.cabin? n with
  | none => s
  | some c =>
    match a.purpose, c.state with
    | .admission, _ => s.occupy n c
    | .reset, .vacating => ((s.convert (s.cabinOut n c false)).clearCabinLink c.band).freeUp n
    | .reset, .evacuated => s.freeUp n
    | .reset, .disabled => s.freeUp n
    | _, _ => s

/-- A cabin action that finally failed acts by its purpose; the action itself has ended. A RESET of an EVACUATED cabin
disables it, with the evacuation flag set too (DESIGN CHOICE, log 37). -/
def State.failCabin (s : State) (n : Fin 64) (a : Action) : State :=
  match s.cabin? n with
  | none => s
  | some c =>
    match a.purpose, c.state with
    | .admission, _ =>
      ((s.convert (.failed (.cabin n) c.band none .admission a.attempt false)).clearCabinLink c.band).jamCabin n .admission
    | .reset, .vacating => ((s.convert (s.cabinOut n c false)).clearCabinLink c.band).jamCabin n .reset
    | .reset, _ => s.jamCabin n .reset
    | p, _ => s.alert .jammed (.cabin n) (.purpose p)

end Sys2Proof.Machine
end

