-- ==== Sys2Proof/Machine/LockerUnit.lean ====
section
/-! DEFINITION. The Locker Table's steps (03, 01 R5): acquire, release, entry into INSPECT, and the endings of locker
actions. -/
namespace Sys2Proof.Machine

/-! ## Acquire and release (R5) -/

/-- The acquire step: the locker joins the end of the band's holdings list and names the band as its holder. It does
not run if the list already has two entries. -/
def State.acquire (s : State) (slot : Nat) (b : Band) (n : Fin 1024) : State :=
  if b.holdings.length < 2 then
    (s.modBand slot (fun b => { b with holdings := b.holdings ++ [n] })).modLocker n
      (fun l => { l with holder := some b.serial })
  else s

/-- The release step: the locker leaves its holder's list, which closes up, and loses its holder. -/
def State.releaseLocker (s : State) (n : Fin 1024) : State :=
  match s.locker? n with
  | some l =>
    (s.modSerial l.holder (fun b => { b with holdings := b.holdings.erase n })).modLocker n
      (fun l => { l with holder := none })
  | none => s

/-! ## INSPECT (R57) -/

/-- A locker enters INSPECT: the holder cleared and the INSPECT alert written with its cause. -/
def State.enterInspect (s : State) (n : Fin 1024) (cause : InspectCause) : State :=
  (s.modLocker n (fun l => { l with state := .inspect, holder := none })).alert .inspect (.locker n) (.cause cause)

/-- The FORCED_DOOR alert of a locker, with its state as detail (R54). -/
def State.forcedDoor (s : State) (n : Fin 1024) (state : LockerState) : State :=
  s.alert .forcedDoor (.locker n) (.lockerState state)

/-! ## The endings of locker actions (R80 to R82, R84) -/

/-- The holder's serial a record of an action carries: none where the action was orphaned (R79). -/
def Action.recordHolder (a : Action) : Option Serial := if a.orphaned then none else a.holder

/-- The claim fee of a locker's zone is added to its holder's accrued fees (R62). -/
def State.chargeClaim (s : State) (l : Locker) : State :=
  s.modSerial l.holder (fun b => { b with fees := satAdd b.fees (s.zones[l.zone]).fee })

/-- The locker's state after a STAFF_OPEN that completes and is not orphaned (R80). -/
def afterStaffOpen (l : Locker) : LockerState :=
  match l.state with
  | .locked => .released
  | .inspect => .vacant
  | .jammed => if l.holder.isSome then .released else .vacant
  | st => st

/-- The change of state at a completion (R80, and R82 where orphaned); the action itself has ended. -/
def State.settleCompletion (s : State) (n : Fin 1024) (l : Locker) (a : Action) : State :=
  if a.orphaned then
    match a.direction with
    | .throw => s.enterInspect n .orphaned
    | .retract => s.modLocker n (fun l => { l with state := .vacant, holder := none })
  else
    match a.purpose with
    | .claim => (s.chargeClaim l).modLocker n (fun l => { l with state := .locked })
    | .relock => s.modLocker n (fun l => { l with state := .locked })
    | .opening => s.modLocker n (fun l => { l with state := .released })
    | _ => s.modLocker n (fun l => { l with state := afterStaffOpen l })

/-- A completed locker action: the change of state, and the reservation converted into the action's record. -/
def State.completeLocker (s : State) (n : Fin 1024) (a : Action) : State :=
  match s.locker? n with
  | none => s
  | some l =>
    (s.settleCompletion n l a).convert (.action a.purpose n a.recordHolder a.requester a.orphaned)

/-- A locker action that finally failed (R81): JAMMED, the alert, and the FAILED record. -/
def State.failLocker (s : State) (n : Fin 1024) (a : Action) : State :=
  ((s.modLocker n (fun l => { l with state := .jammed })).alert .jammed (.locker n) (.purpose a.purpose)).convert
    (.failed (.locker n) a.recordHolder a.requester a.purpose a.attempt a.orphaned)

/-- A locker action abandoned by a RESTART (R84): VERIFY, the holder kept, and the ABANDONED record with the requester
where the action has one (R79, R82). -/
def State.abandonLocker (s : State) (n : Fin 1024) (a : Action) : State :=
  ((s.setAction (.locker n) none).modLocker n
    (fun l => { l with state := .verify, reserveDeadline := none })).convert
      (.abandoned (.locker n) a.recordHolder a.requester a.purpose a.orphaned)

end Sys2Proof.Machine
end

