-- ==== Sys2Proof/Machine/Bolt.lean ====
section
/-! DEFINITION. The Bolt Actuation Unit (04): results, failed attempts, final failure, replacement, and the door
reports that act on a movement (R52, R106). -/
namespace Sys2Proof.Machine

/-- An action completes: it ends, and the owner of the door acts on it (R79). -/
def State.complete (s : State) (d : DoorId) (a : Action) : State :=
  match d with
  | .locker n => (s.endAction d).completeLocker n a
  | .cabin n => (s.endAction d).completeCabin n a

/-- An action ends in final failure: it ends, and the owner of the door acts on it (R79, R81). -/
def State.finalFailure (s : State) (d : DoorId) (a : Action) : State :=
  match d with
  | .locker n => (s.endAction d).failLocker n a
  | .cabin n => (s.endAction d).failCabin n a

/-- The attempt in flight fails (R77): the next attempt starts while its number is below the retry setting plus 1, else
the action ends in final failure. -/
def State.failAttempt (s : State) (d : DoorId) : State :=
  match s.action? d with
  | none => s
  | some a =>
    if a.attempt < s.control.retries + 1 then s.startAttempt d { a with attempt := a.attempt + 1 }
    else s.finalFailure d a

/-- An action ends as by replacement with no successor (R108, R118): nothing is written. -/
def State.dropAction (s : State) (d : DoorId) : State :=
  match s.action? d with
  | none => s
  | some _ => s.endAction d

/-- The bolt position a result tells of (R76). -/
def boltAfter (direction : Direction) : BoltOutcome → Bolt
  | .failed found => found
  | .done => match direction with
    | .throw => .thrown
    | .retract => .retracted

/-- A result sets the locker's bolt field; a cabin entry keeps none (R76, R78). -/
def State.setBolt (s : State) (d : DoorId) (b : Bolt) : State :=
  match d with
  | .locker n => s.modLocker n (fun l => { l with bolt := b })
  | .cabin _ => s

/-- A BOLT result at a door (R76, R78). -/
def State.takeResult (s : State) (d : DoorId) (direction : Direction) (outcome : BoltOutcome) : State :=
  let s := s.setBolt d (boltAfter direction outcome)
  match s.action? d with
  | none => s
  | some a =>
    if a.direction ≠ direction then s
    else match outcome with
      | .failed _ => s.failAttempt d
      | .done =>
        if direction = .throw ∧ s.doorField d = .opened then s.failAttempt d else s.complete d a

/-- An attempt's deadline expires (R77); with no action in flight there is no deadline to expire. -/
def State.expireAttempt (s : State) (d : DoorId) : State :=
  match s.action? d with
  | none => s
  | some a => ((s.passTo a.deadline).setBolt d .unknown).failAttempt d

/-! ## Door reports -/

/-- A THROW is in flight at a door. -/
def State.throwing (s : State) (d : DoorId) : Bool := (s.action? d).any (fun a => a.direction == .throw)

/-- The automatic relock of a RELEASED locker, where its zone has it and a place is granted (R55). -/
def State.autoRelock (s : State) (n : Fin 1024) (l : Locker) : State :=
  if (s.zones[l.zone]).autoRelock then
    match s.reserve? with
    | some s1 => s1.handOver (.locker n) .throw .relock l.holder none true
    | none => s
  else s

/-- A door report for a locker (R52, R54, R55, R77): the field is set, then the further effect. -/
def State.lockerDoor (s : State) (n : Fin 1024) (door : Door) : State :=
  match s.locker? n with
  | none => s
  | some l =>
    let s1 := s.putLocker n { l with door := door }
    if l.action.isSome then
      if s1.throwing (.locker n) = true ∧ door = .opened then s1.failAttempt (.locker n) else s1
    else if l.door = door then s1
    else match l.state, door with
      | .locked, .opened => s1.forcedDoor n .locked
      | .inspect, .opened => s1.forcedDoor n .inspect
      | .released, .shut => s1.autoRelock n l
      | _, _ => s1

/-- A cabin becomes VACATING (R107, R108): its counts stop, its place is kept, its lamp goes OFF. -/
def State.vacate (s : State) (n : Fin 64) : State :=
  (s.modCabin n (fun c => { c.stopClock s.now with state := .vacating })).followLamp n

/-- A THROW with purpose RESET is handed over at a cabin, with no place. -/
def State.handReset (s : State) (n : Fin 64) : State := s.handOver (.cabin n) .throw .reset none none false

/-- A door report for a cabin (R106, R108): the field is set, then the further effect. An OPEN report fails the attempt
of a THROW in flight in any state (R77), at an EVACUATED cabin with the evacuation flag set too, where R117 has door
reports set the field only "because a RETRACT is not failed by an open door" (DESIGN CHOICE, log 37). -/
def State.cabinDoor (s : State) (n : Fin 64) (door : Door) : State :=
  match s.cabin? n with
  | none => s
  | some c =>
    let s1 := s.putCabin n { c with door := door }
    let occupied := c.state = .occupied ∨ c.state = .overtime
    if occupied ∧ c.phase = .outside ∧ c.door = .opened ∧ door = .shut then
      (s1.modCabin n (fun c => { c with phase := .inside, entered := true, entryDeadline := none })).handOver
        (.cabin n) .throw .secure none none false
    else if occupied ∧ c.phase = .inside ∧ c.door ≠ .opened ∧ door = .opened then
      (s1.dropAction (.cabin n)).vacate n
    else if c.state = .vacating ∧ c.action = none ∧ c.door ≠ .shut ∧ door = .shut then s1.handReset n
    else if s1.throwing (.cabin n) = true ∧ door = .opened then s1.failAttempt (.cabin n)
    else s1

end Sys2Proof.Machine
end

