-- ==== Sys2Proof/Machine/Visit.lean ====
section
/-! DEFINITION. The Visit Table's routines (01): strikes, barring, and the removal of a band. -/
namespace Sys2Proof.Machine

/-- A band's entry leaves the class queue its queue link names, and the link is cleared (R7, R102). -/
def State.endQueueLink (s : State) (slot : Nat) : State :=
  match s.band? slot with
  | none => s
  | some b =>
    match b.queueLink with
    | none => s
    | some l => (s.leaveQueue l.cls b.serial).modBand slot (fun b => { b with queueLink := none })

/-- A band's call lapses at once, if it has one (R13, R115). -/
def State.endCall (s : State) (slot : Nat) : State :=
  match (s.band? slot).bind Band.cabinLink with
  | some ⟨n, .called⟩ => s.lapseCall n
  | _ => s

/-- A band is barred (R13): its state, its queue entry, its call. -/
def State.bar (s : State) (slot : Nat) : State :=
  ((s.modBand slot (fun b => { b with state := .barred })).endQueueLink slot).endCall slot

/-- A NOT_HOLDER denial (R10 to R12): a strike is added, and a band that reaches a nonzero strike limit is barred, with
the BAND_BARRED alert. -/
def State.strike (s : State) (slot : Nat) : State :=
  match s.band? slot with
  | none => s
  | some b =>
    let n := min (b.strikes + 1) 7
    let s1 := s.modBand slot (fun b => { b with strikes := n })
    if s.control.strikeLimit ≠ 0 ∧ s.control.strikeLimit ≤ n then
      (s1.bar slot).alert .bandBarred (.band b.serial) (.strikes n)
    else s1

/-- A grant sets the band's strikes to 0 (R10). -/
def State.grant (s : State) (slot : Nat) : State := s.modBand slot (fun b => { b with strikes := 0 })

/-! ## The removal routine (R15, R16) -/

/-- One locker on a leaving band's list is settled (R15): by its action if one is in flight, else by its state; its
holder is cleared in every case. -/
def State.settleLocker (s : State) (n : Fin 1024) : State :=
  match s.locker? n with
  | none => s
  | some l =>
    match l.action with
    | some a => s.putLocker n { l with holder := none, action := some { a with orphaned := true } }
    | none =>
      match l.state with
      | .locked => s.enterInspect n .removed
      | .released => s.putLocker n { l with state := .vacant, holder := none }
      | .reserved => (s.putLocker n { l with state := .vacant, holder := none, reserveDeadline := none }).release
      | _ => s.putLocker n { l with holder := none }

/-- A leaving band's cabin link is settled (R16): a call lapses, an occupant leaves the cabin's entry. -/
def State.settleCabin (s : State) (slot : Nat) : State :=
  match (s.band? slot).bind Band.cabinLink with
  | some ⟨n, .called⟩ => s.lapseCall n
  | some ⟨n, .occupant⟩ => s.modCabin n (fun c => { c with band := none })
  | none => s

/-- The removal routine: the lockers in list order, the cabin link, the queue link, then the record. -/
def State.remove (s : State) (slot : Nat) : State :=
  match s.band? slot with
  | none => s
  | some b => (((b.holdings.foldl State.settleLocker s).settleCabin slot).endQueueLink slot).dropBand slot

end Sys2Proof.Machine
end

