-- ==== Sys2Proof/Machine/Taps.lean ====
section
/-! DEFINITION. The Tap Resolver (02): the answers, the common front, and the taps at locker doors. -/
namespace Sys2Proof.Machine

/-! ## Answers (R21, R23, R24) -/

/-- A tap: where it came from, the reader, the serial (R21). -/
structure Tap where
  spur : Fin 4
  address : Fin 32
  reader : Fin 8
  serial : Serial
deriving DecidableEq, Repr

/-- SHOW(reader, signal) at the head that reported the tap (R23). -/
def State.answerTap (s : State) (t : Tap) (signal : Signal) : State := s.answer t.spur t.address t.reader signal

/-- RED with a reason (R23). -/
def State.red (s : State) (t : Tap) (reason : RedReason) : State := s.answerTap t (.red reason 0)

/-- WAIT: AMBER alone, and no change (R24). -/
def State.wait (s : State) (t : Tap) : State := s.answerTap t .amber

/-- GREEN, a grant: the band's strikes become 0 (R10, R23). -/
def State.green (s : State) (t : Tap) (slot : Nat) : State := (s.grant slot).answerTap t .green

/-- RED NOT_HOLDER with its strike (R10, R12, R44). -/
def State.denyHolder (s : State) (t : Tap) (slot : Nat) : State := (s.strike slot).red t .notHolder

/-! ## The common front (R25 to R29) -/

/-- What the common front makes of a tap: it ends the resolution, or passes the tap on with the band found. -/
inductive FrontOutcome where
  | ended (s : State)
  | passed (s : State) (slot : Nat) (band : Band)
deriving DecidableEq, Repr

/-- The day state answers the tap RED CLOSED (R25). A band the close walk has removed is not present and so not staff:
its tap in CLOSING is RED CLOSED "as R25 gives it" (R48), where a row of R189's table has RED UNKNOWN_BAND (DEDUCED,
log 31). -/
def State.shutOut (s : State) (type : HeadType) (staff : Bool) : Bool :=
  match s.clock.day with
  | .opened => false
  | .closing => type != .exit && !staff
  | .closed => true

/-- An armed watch entry matches a tap (R27); a tap at a LOCK head has a locker number. -/
def Watch.fits (w : Watch) (serial : Serial) (locker : Option (Fin 1024)) (present : Bool) : Bool :=
  w.armed && match w.target with
    | .band x => present && x == serial
    | .range first last => locker.any (fun n => decide (first ≤ n) && decide (n ≤ last))

/-- The subject of a WATCH_HIT (R27): the band of a band entry, the locker of a range entry. -/
def Watch.subject (w : Watch) (serial : Serial) (locker : Option (Fin 1024)) : AlertSubject :=
  match w.target, locker with
  | .range _ _, some n => .locker n
  | _, _ => .band serial

/-- A watch entry fires if it matches: WATCH_HIT is written and the entry disarmed (R27). -/
def State.fireWatch (serial : Serial) (locker : Option (Fin 1024)) (present : Bool) (s : State) (i : Fin 8) : State :=
  match s.watches[i] with
  | none => s
  | some w =>
    if w.fits serial locker present then
      { s.alert .watchHit (w.subject serial locker) (.entry i) with
          watches := s.watches.set i.val (some { w with armed := false }) }
    else s

/-- Every entry that matches fires, ascending (R27). -/
def State.fireWatches (s : State) (serial : Serial) (locker : Option (Fin 1024)) (present : Bool) : State :=
  (List.finRange 8).foldl (State.fireWatch serial locker present) s

/-- An entry that fires has mode HOLD (R27). -/
def State.holdFires (s : State) (serial : Serial) (locker : Option (Fin 1024)) (present : Bool) : Bool :=
  (List.finRange 8).any (fun i => (s.watches[i]).any (fun w => w.fits serial locker present && w.mode == .hold))

/-- The common front (R25 to R29): the day state, presence, the watches, barring and evacuation. -/
def State.front (s : State) (t : Tap) (type : HeadType) (locker : Option (Fin 1024)) : FrontOutcome :=
  let found := s.findBand t.serial
  if s.shutOut type (found.any (fun e => (s.classOf e.2).staff)) then .ended (s.red t .closed)
  else
    let s1 := s.fireWatches t.serial locker found.isSome
    if s.holdFires t.serial locker found.isSome then .ended (s1.red t .staff)
    else match found with
      | none => .ended (s1.red t .unknownBand)
      | some (slot, b) =>
        if b.state = .barred ∧ type ≠ .exit then .ended (s1.red t .barred)
        else if s.clock.evacuation = true ∧ (type = .kiosk ∨ type = .cabin) then .ended (s1.red t .evacuation)
        else .passed s1 slot b

/-! ## Taps at locker doors (R32 to R45) -/

/-- The relation of a band to a locker that has a holder (R33). -/
inductive Relation where
  | holder | mate | staff | other
deriving DecidableEq, Repr

/-- The relation, the first of R33 that applies. -/
def State.relation (s : State) (b : Band) (l : Locker) : Relation :=
  if l.holder = some b.serial then .holder
  else if b.group ≠ 0 ∧ (s.classOf b).share = true
      ∧ ((l.holder.bind s.findBand).any (fun e => e.2.group == b.group)) = true then .mate
  else if (s.classOf b).staff then .staff
  else .other

/-- The hold limit a band's claims are measured against (R6). -/
def State.holdLimit (s : State) (b : Band) : Nat := clamp 1 2 (s.classOf b).holdLimit

/-- The requester an action carries (R72): the tapping band where it is not the holder. -/
def requesterFor (l : Locker) (b : Band) : Option Serial := if l.holder = some b.serial then none else some b.serial

/-- One reservation is asked for, and the movement handed over behind a GREEN (R30, R35, R39, R40, R42, R43, R45). -/
def State.startAtLocker (s : State) (t : Tap) (n : Fin 1024) (l : Locker) (slot : Nat) (b : Band)
    (direction : Direction) (purpose : Purpose) : State :=
  match s.reserve? with
  | none => s.wait t
  | some s1 => (s1.green t slot).handOver (.locker n) direction purpose l.holder (requesterFor l b) true

/-- The claim checks 1 to 4 (R36): the reason of the first that fails. -/
def State.claimRefusal (s : State) (z : Zone) (b : Band) : Option RedReason :=
  if s.clock.evacuation then some .evacuation
  else if z.intake = 0 ∨ (z.intake = 1 ∧ (s.classOf b).staff = false) then some .zoneShut
  else if z.intake = 2 then some .useKiosk
  else if z.classMask.getLsbD b.cls.val = false then some .classExcluded
  else if s.holdLimit b ≤ b.holdings.length then some .limit
  else none

/-- A tap at a VACANT locker (R36, R37). -/
def State.tapVacant (s : State) (t : Tap) (n : Fin 1024) (l : Locker) (slot : Nat) (b : Band) : State :=
  match l.door with
  | .opened => s.red t .doorOpen
  | .unknown => s.wait t
  | .shut =>
    match s.claimRefusal s.zones[l.zone] b with
    | some r => s.red t r
    | none =>
      match s.reserve? with
      | none => s.wait t
      | some s1 =>
        ((s1.acquire slot b n).green t slot).handOver (.locker n) .throw .claim (some b.serial) none true

/-- A tap at a RESERVED locker (R38, R44). -/
def State.tapReserved (s : State) (t : Tap) (n : Fin 1024) (l : Locker) (slot : Nat) (b : Band) : State :=
  if l.holder ≠ some b.serial then s.denyHolder t slot
  else if s.clock.evacuation then s.red t .evacuation
  else if l.door ≠ .shut then s.red t .doorOpen
  else
    ((s.modLocker n (fun l => { l with reserveDeadline := none })).green t slot).handOver (.locker n) .throw .claim
      l.holder none true

/-- A tap at a LOCKED locker (R39, R44). -/
def State.tapLocked (s : State) (t : Tap) (n : Fin 1024) (l : Locker) (slot : Nat) (b : Band) : State :=
  match s.relation b l with
  | .holder | .mate => s.startAtLocker t n l slot b .retract .opening
  | .staff => s.startAtLocker t n l slot b .retract .staffOpen
  | .other => s.denyHolder t slot

/-- GIVE_UP (R41): one place for the record, then the release step. -/
def State.giveUp (s : State) (t : Tap) (n : Fin 1024) (slot : Nat) (b : Band) : State :=
  match s.write? (.giveUp n b.serial) with
  | none => s.wait t
  | some s1 => ((s1.releaseLocker n).modLocker n (fun l => { l with state := .vacant })).green t slot

/-- A tap at a RELEASED locker (R40, R41, R44). -/
def State.tapReleased (s : State) (t : Tap) (n : Fin 1024) (l : Locker) (slot : Nat) (b : Band) : State :=
  match s.relation b l, l.door with
  | .other, _ => s.denyHolder t slot
  | _, .shut => s.startAtLocker t n l slot b .throw .relock
  | _, .unknown => s.wait t
  | .holder, .opened => s.giveUp t n slot b
  | _, .opened => s.red t .doorOpen

/-- A tap at a locker only staff may open: the reason others are shown, or a STAFF_OPEN (R35, R42, R43). -/
def State.tapStaffOnly (s : State) (t : Tap) (n : Fin 1024) (l : Locker) (slot : Nat) (b : Band)
    (reason : RedReason) : State :=
  if (s.classOf b).staff then s.startAtLocker t n l slot b .retract .staffOpen else s.red t reason

/-- The locker decision (R34 to R44). -/
def State.decideLocker (s : State) (t : Tap) (n : Fin 1024) (l : Locker) (slot : Nat) (b : Band) : State :=
  if l.state = .verify ∨ l.action.isSome = true then s.wait t
  else match l.state with
    | .verify => s.wait t
    | .outOfService => s.tapStaffOnly t n l slot b .outOfService
    | .vacant => s.tapVacant t n l slot b
    | .reserved => s.tapReserved t n l slot b
    | .locked => s.tapLocked t n l slot b
    | .released => s.tapReleased t n l slot b
    | .inspect => s.tapStaffOnly t n l slot b .inspect
    | .jammed => s.tapStaffOnly t n l slot b .outOfService

/-- A tap at a LOCK head (R32): discarded where the locker is ABSENT, else the common front and the decision. -/
def State.tapLock (s : State) (t : Tap) : State :=
  let n := lockerAt t.spur t.address t.reader
  match s.locker? n with
  | none => s
  | some l =>
    match s.front t .lock (some n) with
    | .ended s1 => s1
    | .passed s1 slot b => s1.decideLocker t n l slot b

end Sys2Proof.Machine
end

