-- ==== Sys2Proof/Machine/CabinTaps.lean ====
section
/-! DEFINITION. Taps at the two readers of a cabin, and the cabin's deadlines (06). -/
namespace Sys2Proof.Machine

/-! ## The outside reader (R103) -/

/-- The next ticket of a class (R102). -/
def State.nextTicket (s : State) (k : Fin 4) : Nat := if 99 ≤ s.tickets[k] then 1 else s.tickets[k] + 1

/-- The call step runs for the lowest-numbered FREE cabin of a class that is not deferred (R103). -/
def State.callAny (s : State) (k : Fin 4) : State :=
  match s.callableCabin k with
  | some n => s.callStep n
  | none => s

/-- A band joins the tail of a class queue (R103). -/
def State.joinQueue (s : State) (t : Tap) (k : Fin 4) (slot : Nat) (b : Band) : State :=
  let ticket := s.nextTicket k
  let s1 := s.putClassQueue k (s.classQueue k ++ [⟨b.serial, ticket, s.clock.siteMinute⟩])
  let s2 := { s1 with tickets := s1.tickets.set k.val ticket }
  ((s2.modBand slot (fun b => { b with queueLink := some ⟨k, ticket⟩ })).answerTap t (.ticket ticket)).callAny k

/-- Step 5 of R103: the queue decides. -/
def State.decideQueue (s : State) (t : Tap) (k : Fin 4) (slot : Nat) (b : Band) : State :=
  match b.queueLink with
  | some l => if l.cls = k then s.answerTap t (.ticket l.ticket) else s.red t .queuedElsewhere
  | none => if Config.queuePlaces ≤ (s.classQueue k).length then s.red t .queueFull else s.joinQueue t k slot b

/-- A queue is empty or a band heads it. -/
def headsQueue (q : List QueueEntry) (serial : Serial) : Bool :=
  match q with
  | [] => true
  | e :: _ => e.serial == serial

/-- The outside-reader decision (R103). -/
def State.decideOutside (s : State) (t : Tap) (n : Fin 64) (c : Cabin) (slot : Nat) (b : Band) : State :=
  if c.state = .disabled then s.red t .outOfService
  else if (s.classOf b).cabinMask.getLsbD c.cls.val = false then s.red t .classExcluded
  else match b.cabinLink with
    | some l =>
      if l.cabin = n ∧ l.role = .called then s.letIn n c slot b
      else if l.cabin = n ∧ l.role = .occupant ∧ c.state = .admitting then s.wait t
      else s.red t .inCabin
    | none =>
      if c.state = .free ∧ headsQueue (s.classQueue c.cls) b.serial = true then
        match s.reserve? with
        | some s1 => (s1.endQueueLink slot).letIn n c slot b
        | none => s.wait t
      else s.decideQueue t c.cls slot b

/-- A tap at the outside reader of a cabin. -/
def State.tapOutside (s : State) (t : Tap) (n : Fin 64) : State :=
  match s.cabin? n with
  | none => s
  | some c =>
    match s.front t .cabin none with
    | .ended s1 => s1
    | .passed s1 slot b => s1.decideOutside t n c slot b

/-! ## The inside reader (R112) -/

/-- An extension is granted (R112): the countdown starts anew at the latched extension. Where the lamp changes, LAMP
joins the head's list before the GREEN (DESIGN CHOICE, log 32). -/
def State.extend (s : State) (t : Tap) (n : Fin 64) (slot : Nat) : State :=
  ((s.modCabin n (fun c => { c.countdown s.now c.latched.extension with extensions := c.extensions + 1 })).followLamp
    n).green t slot

/-- The inside-reader decision (R112). -/
def State.decideInside (s : State) (t : Tap) (n : Fin 64) (c : Cabin) (slot : Nat) (b : Band) : State :=
  match c.state with
  | .disabled | .free | .called | .vacating | .evacuated => s.red t .outOfService
  | .admitting => s.wait t
  | .overtime => if c.band = some b.serial then s.red t .overtime else s.denyHolder t slot
  | .occupied =>
    if c.band ≠ some b.serial then s.denyHolder t slot
    else if (s.classOf b).extend = false then s.red t .noExtend
    else if c.latched.maxExtensions ≤ c.extensions then s.red t .limit
    else s.extend t n slot

/-- A tap at the inside reader of a cabin. -/
def State.tapInside (s : State) (t : Tap) (n : Fin 64) : State :=
  match s.cabin? n with
  | none => s
  | some c =>
    match s.front t .cabin none with
    | .ended s1 => s1
    | .passed s1 slot b => s1.decideInside t n c slot b

/-! ## Deadlines of a cabin (R107, R110, R115) -/

/-- The cabin's occupancy is running: OCCUPIED or OVERTIME. -/
def Cabin.running (c : Cabin) : Bool := c.state == .occupied || c.state == .overtime

/-- The entry deadline passes (R107): VACATING, and a RESET unless the door is OPEN. -/
def State.expireEntry (s : State) (n : Fin 64) : State :=
  match s.cabin? n with
  | none => s
  | some c =>
    match c.entryDeadline with
    | none => s
    | some t =>
      if c.running = true ∧ c.phase = .outside then
        let s1 := (s.passTo t).vacate n
        if c.door = .opened then s1 else s1.handReset n
      else s

/-- The warning point (R110): the lamp follows. -/
def State.reachWarning (s : State) (n : Fin 64) : State :=
  match s.cabin? n with
  | none => s
  | some c =>
    match c.warningAt with
    | none => s
    | some t =>
      if c.state = .occupied then
        ((s.passTo t).modCabin n (fun c => { c with warningAt := none })).followLamp n
      else s

/-- The expiry of the countdown (R110): OVERTIME, CABIN_OVERSTAY, and the lamp. -/
def State.expireOccupancy (s : State) (n : Fin 64) : State :=
  match s.cabin? n with
  | none => s
  | some c =>
    match c.expiryAt with
    | none => s
    | some t =>
      if c.state = .occupied then
        let s1 := s.passTo t
        ((s1.modCabin n (fun c => { c with state := .overtime, remaining := 0, warningAt := none, expiryAt := none
                                           overtime := 0, overtimeSince := some s1.now })).alert
            .cabinOverstay (.cabin n) (.extensions c.extensions)).followLamp n
      else s

/-- The call deadline passes (R115). -/
def State.expireCall (s : State) (n : Fin 64) : State :=
  match s.cabin? n with
  | none => s
  | some c =>
    match c.callDeadline with
    | none => s
    | some t => if c.state = .called then (s.passTo t).lapseCall n else s

end Sys2Proof.Machine
end

