-- ==== Sys2Proof/Machine/Kiosk.lean ====
section
/-! DEFINITION. The Allocation Unit (05): the kiosk decision, the search, the allocation, and the lapse of a
reservation. -/
namespace Sys2Proof.Machine

/-- A locker the search may choose (R91): of the zone, VACANT, with no action in flight. -/
def State.offers (s : State) (z : Fin 16) (n : Fin 1024) : Bool :=
  (s.locker? n).any (fun l => l.zone == z && l.state == .vacant && l.action.isNone)

/-- The search (R91): in ROTATE from above the rotor upward and round to it, in PACK from 0 upward. -/
def State.searchLocker (s : State) (z : Fin 16) : Option (Fin 1024) :=
  let found := s.lockerNumbers.filter (s.offers z)
  match (s.zones[z]).mode with
  | .pack => found.head?
  | .rotate => ((found.find? (fun n => decide (s.rotors[z] < n))).or found.head?)

/-- The band's existing reservation in a zone, the earlier on its list (R89). -/
def State.reservedIn (s : State) (z : Fin 16) (b : Band) : Option (Fin 1024) :=
  b.holdings.find? (fun n => (s.locker? n).any (fun l => l.state == .reserved && l.zone == z))

/-- The allocation of a locker (R93), both places having been granted. -/
def State.allocate (s : State) (t : Tap) (z : Fin 16) (n : Fin 1024) (slot : Nat) (b : Band) : State :=
  let s1 := s.modLocker n
    (fun l => { l with state := .reserved, reserveDeadline := some (s.now + (s.zones[z]).window * 1000) })
  let s2 := s1.acquire slot b n
  let s3 := match (s.zones[z]).mode with
    | .rotate => { s2 with rotors := s2.rotors.set z.val n }
    | .pack => s2
  (s3.answerTap t (.number n.val)).grant slot

/-- The kiosk decision (R88 to R93). -/
def State.decideKiosk (s : State) (t : Tap) (z : Fin 16) (slot : Nat) (b : Band) : State :=
  let zone := s.zones[z]
  if zone.intake = 0 ∨ (zone.intake = 1 ∧ (s.classOf b).staff = false) then s.red t .zoneShut
  else if zone.classMask.getLsbD b.cls.val = false then s.red t .classExcluded
  else match s.reservedIn z b with
    | some n => (s.answerTap t (.number n.val)).grant slot
    | none =>
      if s.holdLimit b ≤ b.holdings.length then s.red t .limit
      else match s.searchLocker z with
        | none => s.red t .noFree
        | some n =>
          match s.writeReserve? (.reserve n b.serial zone.window) with
          | none => s.wait t
          | some s1 => s1.allocate t z n slot b

/-- A tap at a KIOSK head of a zone (R87). -/
def State.tapKiosk (s : State) (t : Tap) (z : Fin 16) : State :=
  match s.front t .kiosk none with
  | .ended s1 => s1
  | .passed s1 slot b => s1.decideKiosk t z slot b

/-- A reserve deadline passes (R95); one that was cancelled does not. -/
def State.lapseReservation (s : State) (n : Fin 1024) : State :=
  match s.locker? n with
  | none => s
  | some l =>
    match l.reserveDeadline with
    | none => s
    | some t =>
      if l.state = .reserved ∧ l.action = none then
        (((s.passTo t).releaseLocker n).modLocker n
          (fun l => { l with state := .vacant, reserveDeadline := none })).convert (.reserveLapsed n l.holder)
      else s

end Sys2Proof.Machine
end

