-- ==== Sys2Proof/Machine/Bands.lean ====
section
/-! DEFINITION. The band commands (01): BAND_ISSUE, BAND_CREDIT, BAND_BAR, BAND_VOID, BAND_REPLACE, BAND_QUERY. -/
namespace Sys2Proof.Machine

/-! ## BAND_ISSUE (R3) -/

/-- The record an accepted issue creates. -/
def State.issuedBand (s : State) (serial : Serial) (cls : Fin 16) (group credit : Nat) : Band where
  serial := serial
  state := .active
  cls := cls
  group := group
  entryMinute := s.clock.siteMinute
  tariffSet := s.issueSet
  credit := credit
  fees := 0
  holdings := []
  cabinLink := none
  queueLink := none
  strikes := 0
  frozen := none

/-- The lowest free slot (R1). -/
def State.freeSlot (s : State) : Nat := Table.firstFree 0 s.visit

/-- BAND_ISSUE: the checks in their order, then the record in the lowest free slot. -/
def State.bandIssue (s : State) (serial : Serial) (cls : Byte) (group credit : Option (BitVec 16)) : Verdict :=
  let g := (group.getD 0).toNat
  match validSerial serial, below 16 cls.toNat with
  | true, some k =>
    if 1023 < g then .refused .range
    else if s.clock.day ≠ .opened then .refused .state
    else if (s.findBand serial).isSome then .refused .inUse
    else if Config.bandSlots ≤ s.visit.length then .refused .full
    else .accepted (s.putBand s.freeSlot (s.issuedBand serial k g (credit.getD 0).toNat))
      (.issued s.freeSlot s.clock.siteMinute s.issueSet)
  | _, _ => .refused .range

/-! ## BAND_CREDIT (R4) -/

/-- BAND_CREDIT: the amount is added, saturating. -/
def State.bandCredit (s : State) (serial : Serial) (amount : BitVec 16) : Verdict :=
  if validSerial serial = false then .refused .range
  else match s.findBand serial with
    | none => .refused .notFound
    | some (slot, b) =>
      .accepted (s.modBand slot (fun b => { b with credit := satAdd b.credit amount.toNat }))
        (.credit (satAdd b.credit amount.toNat))

/-! ## BAND_BAR (R13, R14) -/

/-- The cabin link has role CALLED. -/
def Band.called (b : Band) : Bool := b.cabinLink.any (fun l => l.role == .called)

/-- BAND_BAR on: the reply says whether a queue entry or a call was ended. -/
def State.barOn (s : State) (slot : Nat) (b : Band) : Verdict :=
  if b.state = .barred then .accepted s (.barred .barred false)
  else .accepted (s.bar slot) (.barred .barred (b.queueLink.isSome || b.called))

/-- A record as BAND_BAR off leaves it (R14). -/
def Band.unbarred (b : Band) (siteMinute : Nat) : Band :=
  if b.state = .barred then
    { b with state := .active, strikes := 0, frozen := b.frozen.filter (fun f => decide (siteMinute ≤ f.deadline)) }
  else { b with strikes := 0 }

/-- BAND_BAR off. -/
def State.barOff (s : State) (slot : Nat) (b : Band) : Verdict :=
  .accepted (s.modBand slot (fun b => b.unbarred s.clock.siteMinute)) (.unbarred (b.unbarred s.clock.siteMinute).state)

/-- BAND_BAR. -/
def State.bandBar (s : State) (serial : Serial) (on : Bool) : Verdict :=
  if validSerial serial = false then .refused .range
  else match s.findBand serial with
    | none => .refused .notFound
    | some (slot, b) => if on then s.barOn slot b else s.barOff slot b

/-! ## BAND_VOID (R17) -/

/-- The lockers a removal of the band leaves in INSPECT: LOCKED with no action. -/
def State.willInspect (s : State) (b : Band) : Nat :=
  b.holdings.countP (fun n => (s.locker? n).any (fun l => l.state == .locked && l.action.isNone))

/-- The actions a removal of the band orphans. -/
def State.willOrphan (s : State) (b : Band) : Nat :=
  b.holdings.countP (fun n => (s.locker? n).any (fun l => l.action.isSome))

/-- BAND_VOID: the removal routine, without waiting. -/
def State.bandVoid (s : State) (serial : Serial) : Verdict :=
  if validSerial serial = false then .refused .range
  else if s.clock.day = .closed then .refused .state
  else match s.findBand serial with
    | none => .refused .notFound
    | some (slot, b) => .accepted (s.remove slot) (.voided slot (s.willInspect b) (s.willOrphan b))

/-! ## BAND_REPLACE (R18, R72) -/

/-- A reference to the old serial is changed to the new one. -/
def renamed (old new : Serial) (x : Option Serial) : Option Serial := if x = some old then some new else x

/-- An action record with its holder and requester rewritten (R72). -/
def Action.rename (old new : Serial) (a : Action) : Action :=
  { a with holder := renamed old new a.holder, requester := renamed old new a.requester }

/-- A locker entry with its holder and its action's bands rewritten. -/
def Locker.rename (old new : Serial) (l : Locker) : Locker :=
  { l with holder := renamed old new l.holder, action := l.action.map (Action.rename old new) }

/-- A cabin entry with its band and its action's bands rewritten. -/
def Cabin.rename (old new : Serial) (c : Cabin) : Cabin :=
  { c with band := renamed old new c.band, action := c.action.map (Action.rename old new) }

/-- A queue entry with its serial rewritten. -/
def QueueEntry.rename (old new : Serial) (e : QueueEntry) : QueueEntry :=
  if e.serial = old then { e with serial := new } else e

/-- Every reference to the old serial is changed, the record's own included. -/
def State.rename (s : State) (slot : Nat) (old new : Serial) : State :=
  let s1 := s.modBand slot (fun b => { b with serial := new })
  { s1 with lockers := s1.lockers.map (fun e => (e.1, e.2.rename old new))
            cabins := s1.cabins.map (fun e => (e.1, e.2.rename old new))
            classQueues := s1.classQueues.map (fun q => q.map (QueueEntry.rename old new)) }

/-- BAND_REPLACE. -/
def State.bandReplace (s : State) (old new : Serial) : Verdict :=
  if validSerial old = false ∨ validSerial new = false then .refused .range
  else if s.clock.day = .closed then .refused .state
  else match s.findBand old with
    | none => .refused .notFound
    | some (slot, _) =>
      if (s.findBand new).isSome then .refused .inUse else .accepted (s.rename slot old new) (.slot slot)

/-! ## BAND_QUERY (R19) -/

/-- The report of a band. -/
def State.reportBand (s : State) (slot : Nat) (b : Band) : BandReport where
  slot := slot
  band := b
  lockers := b.holdings.map (fun n => ((s.locker? n).map Locker.state, (s.action? (.locker n)).isSome))

/-- BAND_QUERY. -/
def State.bandQuery (s : State) (serial : Serial) : Verdict :=
  if validSerial serial = false then .refused .range
  else match s.findBand serial with
    | none => .refused .notFound
    | some (slot, b) => .accepted s (.band (s.reportBand slot b))

end Sys2Proof.Machine
end

