-- ==== Sys2Proof/Machine/CabinCommands.lean ====
section
/-! DEFINITION. CABIN_SET, CABIN_QUERY and QUEUE_QUERY (06 R120 to R122). -/
namespace Sys2Proof.Machine

/-! ## CABIN_SET (R120) -/

/-- The reply to a CABIN_SET: the cabin's state after the command. -/
def State.cabinReply (s : State) (n : Fin 64) : Verdict :=
  .accepted s (.cabinState (match s.cabin? n with
    | some c => c.state
    | none => .disabled))

/-- CLOSE. -/
def State.cabinClose (s : State) (n : Fin 64) (c : Cabin) : Verdict :=
  if c.state ≠ .free then .refused .inUse
  else (s.putCabin n { c with state := .disabled, statusWait := .nothing, deferred := false }).cabinReply n

/-- REOPEN. -/
def State.cabinReopen (s : State) (n : Fin 64) (c : Cabin) : Verdict :=
  if c.state ≠ .disabled then .refused .inUse
  else if c.action.isSome then .refused .busy
  else ((s.putCabin n { c with statusWait := .reopen }).place c.spur c.address .ident).cabinReply n

/-- CLASS c. -/
def State.cabinReclass (s : State) (n : Fin 64) (c : Cabin) (k : Fin 4) : Verdict :=
  if c.state = .free then ((s.putCabin n { c with cls := k, deferred := false }).callStep n).cabinReply n
  else if c.state = .disabled then (s.putCabin n { c with cls := k, deferred := false }).cabinReply n
  else .refused .inUse

/-- CABIN_SET: the cabin, the action's code and the class in range, then the entry. -/
def State.cabinSet (s : State) (cabin action cls : Byte) : Verdict :=
  match below 64 cabin.toNat, below 4 cls.toNat with
  | some n, some k =>
    if action = 0 ∨ 3 < action.toNat then .refused .range
    else match s.cabin? n with
      | none => .refused .notFound
      | some c =>
        if action = 1 then s.cabinClose n c
        else if action = 2 then s.cabinReopen n c
        else s.cabinReclass n c k
  | _, _ => .refused .range

/-! ## Queries (R121, R122) -/

/-- The report of a cabin (R121). -/
def Cabin.report (c : Cabin) (n : Fin 64) (now : Nat) : CabinReport where
  number := n
  entry := c
  remaining := c.remainingAt now
  overtime := c.overtimeAt now
  callLeft := c.callDeadline.map (secondsLeft now)
  entryLeft := c.entryDeadline.map (secondsLeft now)

/-- CABIN_QUERY. -/
def State.cabinQuery (s : State) (cabin : Byte) : Verdict :=
  match below 64 cabin.toNat with
  | none => .refused .range
  | some n =>
    match s.cabin? n with
    | none => .refused .notFound
    | some c => .accepted s (.cabin (c.report n s.now))

/-- QUEUE_QUERY. -/
def State.queueQuery (s : State) (cls : Byte) : Verdict :=
  match below 4 cls.toNat with
  | none => .refused .range
  | some k =>
    let free := (s.cabins.map Prod.snd).filter (fun c => c.cls == k && c.state == .free)
    .accepted s (.queue ⟨s.classQueue k, s.tickets[k], free.length, free.countP Cabin.deferred⟩)

end Sys2Proof.Machine
end

