-- ==== Sys2Proof/Machine/Evacuation.lean ====
section
/-! DEFINITION. Evacuation and the local lines (06 R116 to R118, 11 R191, R192), with the beginning of the end of the
day that the closing key shares with DAY_CLOSE (R188). -/
namespace Sys2Proof.Machine

/-! ## Assertion (R116) -/

/-- The record a cabin's place becomes when evacuation ends what it stood for (R116). -/
def State.evacuationRecord (s : State) (n : Fin 64) (c : Cabin) : Option RecordBody :=
  match c.state with
  | .called => some (.callLapsed n c.band c.ticket)
  | .admitting => some (.cabinOut n c.band (c.overtimeAt s.now) c.extensions true true)
  | .occupied | .overtime | .vacating => some (s.cabinOut n c true)
  | .disabled | .free | .evacuated => none

/-- A cabin's entry as evacuation leaves it (R116). -/
def Cabin.evacuate (c : Cabin) (now : Nat) : Cabin :=
  { c.stopClock now with state := .evacuated, band := none, ticket := none, slot := false, callDeadline := none
                         deferred := false }

/-- One cabin at the assertion (R83, R116): its record, its link, its deadlines, the EVAC action, the lamp. -/
def State.evacuateCabin (s : State) (n : Fin 64) : State :=
  match s.cabin? n with
  | none => s
  | some c =>
    if c.state = .disabled then s
    else
      let s1 := match s.evacuationRecord n c with
        | some r => (s.convert r).clearCabinLink c.band
        | none => s
      (((s1.modCabin n (fun c => c.evacuate s.now)).dropAction (.cabin n)).handOver (.cabin n) .retract .evac none none
        false).followLamp n

/-- A class queue is emptied, each entry's band losing its queue link (R116). -/
def State.emptyQueue (s : State) (k : Fin 4) : State :=
  ((s.classQueue k).foldl (fun s e => s.modSerial (some e.serial) (fun b => { b with queueLink := none })) s).putClassQueue
    k []

/-- The state with the evacuation flag. -/
def State.setEvacuation (s : State) (on : Bool) : State := { s with clock := { s.clock with evacuation := on } }

/-- The evacuation flag becomes set (R116): every cabin, then every queue. -/
def State.assertEvacuation (s : State) : State :=
  let s1 := s.setEvacuation true
  (List.finRange 4).foldl State.emptyQueue (s1.cabinNumbers.foldl State.evacuateCabin s1)

/-! ## Release (R118) -/

/-- One cabin at the release: an EVACUATED cabin's action ends with no successor and a RESET is handed over. R118 speaks
of an EVAC in flight; a RESET in flight, started by a status wait during the evacuation, is ended and handed over anew
like it (DESIGN CHOICE, log 38). -/
def State.releaseCabin (s : State) (n : Fin 64) : State :=
  match s.cabin? n with
  | none => s
  | some c =>
    if c.state = .evacuated then
      ((s.dropAction (.cabin n)).modCabin n (fun c => { c with statusWait := .nothing })).handReset n
    else s

/-- The evacuation flag clears (R118). -/
def State.releaseEvacuation (s : State) : State :=
  let s1 := s.setEvacuation false
  s1.cabinNumbers.foldl State.releaseCabin s1

/-! ## The end of the day begins (R188) -/

/-- DAY_CLOSE or the closing key in OPEN: CLOSING, the cursor at slot 0, the walk due. -/
def State.beginClosing (s : State) : State :=
  { s with clock := { s.clock with day := .closing, cursor := 0, walk := .due, closes := 0 } }

/-! ## Lines (R191, R192) -/

/-- The state with a line. -/
def State.putLine (s : State) (i : Fin 6) (l : Line) : State := { s with lines := s.lines.set i.val l }

/-- A line is an input whose taken level is asserted EVAC_IN. -/
def Line.holdsEvacuation (l : Line) : Bool := l.function == .evacIn && l.taken

/-- Some line is taken as asserted EVAC_IN. -/
def State.evacuationHeld (s : State) : Bool := (List.finRange 6).any (fun i => (s.lines[i]).holdsEvacuation)

/-- A release of EVAC_IN (R192): the flag clears if no line holds it. -/
def State.evacuationLet (s : State) : State :=
  if s.clock.evacuation = true ∧ s.evacuationHeld = false then s.releaseEvacuation else s

/-- An assertion of EVAC_IN (R192): the alert, and the flag if it was clear. -/
def State.evacuationTaken (s : State) (i : Fin 6) : State :=
  let s1 := s.alert .evacuation (.line i) .asserted
  if s1.clock.evacuation then s1 else s1.assertEvacuation

/-- A newly taken level acts by the line's function (R192). -/
def State.actOnLine (s : State) (i : Fin 6) (function : LineFunction) (asserted : Bool) : State :=
  match function, asserted with
  | .evacIn, true => s.evacuationTaken i
  | .evacIn, false => s.evacuationLet
  | .closeKey, true => if s.clock.day = .opened then s.beginClosing else s
  | _, _ => s

/-- A line as it is watched (R192): a settle timer runs while an input's pin differs from its taken level. A timer that
runs keeps its moment. -/
def Line.watch (l : Line) (now : Nat) : Line :=
  if isInput l.function = true ∧ l.pinAsserted ≠ l.taken then { l with settle := some (l.settle.getD (now + 50)) }
  else { l with settle := none }

/-- The outside drives a line's pin to a level (R192). -/
def State.drivePin (s : State) (i : Fin 6) (high : Bool) : State :=
  s.putLine i ({ s.lines[i] with high := high }.watch s.now)

/-- A settle timer expires (R192): the pin's level is taken. A cancelled timer does not expire. -/
def State.settleLine (s : State) (i : Fin 6) : State :=
  let l := s.lines[i]
  match l.settle with
  | none => s
  | some t =>
    ((s.passTo t).putLine i { l with taken := l.pinAsserted, settle := none }).actOnLine i l.function l.pinAsserted

/-- A line after LINES_LOAD (R191): unchanged if its function and polarity are, else released and watched anew. -/
def Line.load (l : Line) (new : LineFunction × Bool) (now : Nat) : Line :=
  if l.function = new.1 ∧ l.inverted = new.2 then l
  else { l with function := new.1, inverted := new.2, taken := false, settle := none }.watch now

/-- LINES_LOAD (R191): the six lines are set; a line that lost an asserted EVAC_IN then acts as its release (log 27). -/
def State.loadLines (s : State) (new : Vector (LineFunction × Bool) 6) : State :=
  ({ s with lines := s.lines.mapFinIdx (fun i l h => l.load (new[i]) s.now) }).evacuationLet

end Sys2Proof.Machine
end

