-- ==== Sys2Proof/Machine/Tally.lean ====
section
/-! DEFINITION. The Tally Unit (07): the charge in eight stages, and the exit. -/
namespace Sys2Proof.Machine

/-! ## The charge (R133, R134) -/

/-- Stage 1: the exit minute. A frozen exit holds while the site minute is at or below its deadline. -/
def exitMinute (b : Band) (n : Nat) : Nat :=
  match b.frozen with
  | some f => if n ≤ f.deadline then f.minute else n
  | none => n

/-- Stage 3: the overstay of a stay, grace forgiving it wholly or not at all. -/
def overstay (d : ClassDesc) (stay : Nat) : Nat := if stay ≤ d.allowance + d.grace then 0 else stay - d.allowance

/-- Stage 4: the overstay in whole steps, rounded up. -/
def steps (t : Tariff) (o : Nat) : Nat := (o + t.step - 1) / t.step

/-- Stages 5 and 6: the overstay charge, at most the cap. -/
def overstayCharge (t : Tariff) (u : Nat) : Nat := min (u * t.price) t.cap

/-- The eight stages for a band at a site minute: the fields of an EXIT or CLOSE record, with the credit used. -/
def tally (d : ClassDesc) (t : Tariff) (b : Band) (n : Nat) : TallyFields :=
  let x := exitMinute b n
  let stay := x - b.entryMinute
  let charge := overstayCharge t (steps t (overstay d stay))
  let total := satAdd charge b.fees
  { serial := b.serial, set := b.tariffSet, cls := b.cls, exitMinute := x, stay := stay, charge := charge,
    fees := b.fees, total := total, credit := min total b.credit, due := total - b.credit }

/-- The computation for a band as the tables and the site minute stand (R133). -/
def State.tallyOf (s : State) (b : Band) : TallyFields := tally (s.classOf b) (s.tariffOf b) b s.clock.siteMinute

/-! ## The exit tap (R130 to R138) -/

/-- A locker on the band's list has an action in flight (R130). -/
def State.moving (s : State) (b : Band) : Bool := b.holdings.any (fun n => (s.action? (.locker n)).isSome)

/-- A locker on the band's list is LOCKED (R131). -/
def State.holdsLocked (s : State) (b : Band) : Bool :=
  b.holdings.any (fun n => (s.locker? n).any (fun l => l.state == .locked))

/-- GATE is placed at the exit head (R135). -/
def State.gate (s : State) (t : Tap) : State := s.place t.spur t.address .gate

/-- The band leaves (R135, R137): the EXIT record is in its place; GREEN, GATE, and the removal routine. -/
def State.letOut (s : State) (t : Tap) (slot : Nat) : State := ((s.answerTap t .green).gate t).remove slot

/-- The band is sent to pay (R136): the EXIT_DUE record is in its place. The frozen exit is set anew, so a stale one
that stage 1 cleared leaves nothing behind. -/
def State.sendToPay (s : State) (t : Tap) (slot : Nat) (f : TallyFields) : State :=
  (s.modBand slot (fun b =>
    { b with frozen := some ⟨f.exitMinute, f.exitMinute + s.control.tallyHold⟩
             state := if b.state = .barred then .barred else .due })).answerTap t (.red .payDue (min f.due 9999))

/-- The decision at the exit during evacuation (R130 to R132, R137). -/
def State.exitEvacuating (s : State) (t : Tap) (slot : Nat) (b : Band) : State :=
  match s.write? (.exit (s.tallyOf b) true) with
  | some s1 => s1.letOut t slot
  | none => (s.answerTap t .amber).gate t

/-- The decision at the exit with the evacuation flag clear (R130 to R136). -/
def State.exitNormal (s : State) (t : Tap) (slot : Nat) (b : Band) : State :=
  let f := s.tallyOf b
  if s.moving b then s.wait t
  else if (s.classOf b).strictExit = true ∧ s.holdsLocked b = true then s.red t .lockerHeld
  else if f.due = 0 then
    match s.write? (.exit f false) with
    | some s1 => s1.letOut t slot
    | none => s.wait t
  else
    match s.write? (.exitDue { f with credit := b.credit }) with
    | some s1 => s1.sendToPay t slot f
    | none => s.wait t

/-- A tap at an EXIT head (R130). -/
def State.tapExit (s : State) (t : Tap) : State :=
  match s.front t .exit none with
  | .ended s1 => s1
  | .passed s1 slot b =>
    if s1.clock.evacuation then s1.exitEvacuating t slot b else s1.exitNormal t slot b

end Sys2Proof.Machine
end

