-- ==== Sys2Proof/Decode.lean ====
section
/-! DEFINITION. The byte layouts of what the W316 receives (R174, R175, R182, R184): the CRC, the bodies of the
downstream frames in both directions (read and laid out), and the reply frames of the heads. The opcode table gives
no row any bits, so no table word spells a command. -/
namespace Sys2Proof

/-! ## Bytes and words (R182: high byte first) -/

/-- Two bytes, high byte first. -/
def word16 (hi lo : Byte) : BitVec 16 := hi ++ lo

/-- Four bytes, high byte first. -/
def word32 (b3 b2 b1 b0 : Byte) : BitVec 32 := b3 ++ b2 ++ b1 ++ b0

/-- A 16-bit field as bytes. -/
def bytes16 (w : BitVec 16) : List Byte := [w.extractLsb' 8 8, w.extractLsb' 0 8]

/-- A 32-bit field as bytes. -/
def bytes32 (w : BitVec 32) : List Byte :=
  [w.extractLsb' 24 8, w.extractLsb' 16 8, w.extractLsb' 8 8, w.extractLsb' 0 8]

/-- A number that takes one byte. -/
def num8 (n : Nat) : List Byte := [BitVec.ofNat 8 n]

/-- A number that takes two bytes. -/
def num16 (n : Nat) : List Byte := bytes16 (BitVec.ofNat 16 n)

/-- A number that takes three bytes (the deadline of a frozen exit). -/
def num24 (n : Nat) : List Byte := num8 (n / 65536) ++ num16 (n % 65536)

/-- An on/off field (R182): 1 for on, yes, armed and asserted, 0 for off, no, clear and released (DESIGN CHOICE,
log 34). -/
def flagByte (b : Bool) : List Byte := num8 b.toNat

/-! ## The CRC (R174: polynomial 1021h, initial value FFFFh, most significant bit first, no final inversion) -/

/-- One bit of the CRC division. -/
def crcShift (c : BitVec 16) : BitVec 16 :=
  if c.msb then (c <<< 1) ^^^ 0x1021#16 else c <<< 1

/-- One byte of the CRC division. -/
def crcByte (c : BitVec 16) (b : Byte) : BitVec 16 :=
  crcShift (crcShift (crcShift (crcShift (crcShift (crcShift (crcShift (crcShift
    (c ^^^ (b.zeroExtend 16 <<< 8)))))))))

/-- The CRC of a run of bytes. -/
def crc16 (bs : List Byte) : BitVec 16 := bs.foldl crcByte 0xFFFF#16

/-! ## Kinds -/

/-- The code of a downstream kind (R182). -/
def FrameKind.code : FrameKind → Byte
  | .bandIssue => 0x10 | .bandCredit => 0x11 | .bandBar => 0x12 | .bandVoid => 0x13 | .bandReplace => 0x14
  | .bandQuery => 0x15
  | .classLoad => 0x20 | .tariffLoad => 0x21 | .scheduleLoad => 0x22 | .controlLoad => 0x23
  | .zoneLoad => 0x30 | .lockerSet => 0x31 | .lockerQuery => 0x32
  | .cabinClassLoad => 0x40 | .cabinSet => 0x41 | .cabinQuery => 0x42 | .queueQuery => 0x43
  | .headEnrol => 0x50 | .headRemove => 0x51 | .pollPlan => 0x52 | .restart => 0x53
  | .watchSet => 0x60 | .watchClear => 0x61
  | .alertFetch => 0x70 | .alertPeek => 0x71 | .alertClear => 0x72
  | .pause => 0x78 | .resume => 0x79
  | .timeSet => 0x80 | .openDay => 0x81 | .dayClose => 0x82 | .linesLoad => 0x83 | .statusQuery => 0x84

/-- Every downstream kind. -/
def FrameKind.all : List FrameKind :=
  [.bandIssue, .bandCredit, .bandBar, .bandVoid, .bandReplace, .bandQuery, .classLoad, .tariffLoad, .scheduleLoad,
   .controlLoad, .zoneLoad, .lockerSet, .lockerQuery, .cabinClassLoad, .cabinSet, .cabinQuery, .queueQuery,
   .headEnrol, .headRemove, .pollPlan, .restart, .watchSet, .watchClear, .alertFetch, .alertPeek, .alertClear,
   .pause, .resume, .timeSet, .openDay, .dayClose, .linesLoad, .statusQuery]

/-- The kind a code names, if it is a downstream kind (R175). -/
def FrameKind.ofCode (b : Byte) : Option FrameKind := FrameKind.all.find? (fun k => k.code == b)

/-! ## Codes of fields (R182) -/

/-- On/off fields take 0 or 1, and any other value is refused FORMAT (R182). 1 stands for on and yes (DESIGN CHOICE,
log 34). -/
def readFlag (b : Byte) : Option Bool :=
  if b = 0 then some false else if b = 1 then some true else none

/-- A small set or field of four bits; the unused upper bits are reserved. -/
def readNibble (b : Byte) : Option (BitVec 4) :=
  if b.extractLsb' 4 4 = 0#4 then some (b.extractLsb' 0 4) else none

/-- ZONE_LOAD's intake uses 3 bits; the unused upper bits are read as reserved. DEDUCED, log 28. -/
def readIntake (b : Byte) : Option (BitVec 3) :=
  if b.extractLsb' 3 5 = 0#5 then some (b.extractLsb' 0 3) else none

/-- Mode codes ROTATE 0 and PACK 1; any other is refused FORMAT. -/
def readMode (b : Byte) : Option ZoneMode :=
  if b = 0 then some .rotate else if b = 1 then some .pack else none

/-- The code of a zone's mode. -/
def ZoneMode.code : ZoneMode → Byte
  | .rotate => 0
  | .pack => 1

/-- The function code of a line, 0 to 5; 6 and 7 are refused FORMAT. -/
def readFunction (c : BitVec 3) : Option LineFunction :=
  if c = 0 then some .unmapped else if c = 1 then some .evacIn else if c = 2 then some .closeKey
  else if c = 3 then some .attentionOut else if c = 4 then some .evacOut
  else if c = 5 then some .backpressureOut else none

/-- The code of a line function. -/
def LineFunction.code : LineFunction → BitVec 3
  | .unmapped => 0 | .evacIn => 1 | .closeKey => 2 | .attentionOut => 3 | .evacOut => 4 | .backpressureOut => 5

/-- A line byte of LINES_LOAD: function in the low 3 bits, polarity (1 inverted) in the top bit, the rest reserved. -/
def readLine (b : Byte) : Option (LineFunction × Bool) :=
  if b.extractLsb' 3 4 = 0#4 then (readFunction (b.extractLsb' 0 3)).map (fun f => (f, b.msb)) else none

/-- The line byte of a function and polarity. -/
def lineByte (l : LineFunction × Bool) : Byte := BitVec.ofBool l.2 ++ 0#4 ++ l.1.code

/-! ## Bodies of the downstream frames, read (R175, R182). `none` is FORMAT. -/

/-- BAND_ISSUE: 5, 7 or 9 bytes. -/
def readBandIssue : List Byte → Option Command
  | [a, b, c, d, k] => some (.bandIssue (word32 a b c d) k none none)
  | [a, b, c, d, k, g1, g0] => some (.bandIssue (word32 a b c d) k (some (word16 g1 g0)) none)
  | [a, b, c, d, k, g1, g0, c1, c0] =>
    some (.bandIssue (word32 a b c d) k (some (word16 g1 g0)) (some (word16 c1 c0)))
  | _ => none

/-- BAND_CREDIT: serial, amount. -/
def readBandCredit : List Byte → Option Command
  | [a, b, c, d, m1, m0] => some (.bandCredit (word32 a b c d) (word16 m1 m0))
  | _ => none

/-- BAND_BAR: serial, on. -/
def readBandBar : List Byte → Option Command
  | [a, b, c, d, f] => (readFlag f).map (.bandBar (word32 a b c d))
  | _ => none

/-- BAND_VOID: serial. -/
def readBandVoid : List Byte → Option Command
  | [a, b, c, d] => some (.bandVoid (word32 a b c d))
  | _ => none

/-- BAND_REPLACE: old, new. -/
def readBandReplace : List Byte → Option Command
  | [a, b, c, d, e, f, g, h] => some (.bandReplace (word32 a b c d) (word32 e f g h))
  | _ => none

/-- BAND_QUERY: serial. -/
def readBandQuery : List Byte → Option Command
  | [a, b, c, d] => some (.bandQuery (word32 a b c d))
  | _ => none

/-- CLASS_LOAD: class, hold limit, features, allowance, grace, cabin mask. -/
def readClassLoad : List Byte → Option Command
  | [k, h, f, a1, a0, g, m] =>
    match readNibble f, readNibble m with
    | some fs, some ms => some (.classLoad k h fs (word16 a1 a0) g ms)
    | _, _ => none
  | _ => none

/-- TARIFF_LOAD: set, class, step, price, cap. -/
def readTariffLoad : List Byte → Option Command
  | [s, k, t, p1, p0, c1, c0] => some (.tariffLoad s k t (word16 p1 p0) (word16 c1 c0))
  | _ => none

/-- The periods of SCHEDULE_LOAD, three bytes each. -/
def readPeriods : List Byte → Option (List (BitVec 16 × Byte))
  | [] => some []
  | a :: b :: c :: rest => (readPeriods rest).map ((word16 a b, c) :: ·)
  | _ => none

/-- SCHEDULE_LOAD: a multiple of 3 bytes, 0 to 60. -/
def readScheduleLoad (bs : List Byte) : Option Command :=
  if bs.length ≤ 60 then (readPeriods bs).map .scheduleLoad else none

/-- CONTROL_LOAD: five settings. -/
def readControlLoad : List Byte → Option Command
  | [h, s, r, a, t] => some (.controlLoad h s r a t)
  | _ => none

/-- ZONE_LOAD: zone, intake, fee, class mask, mode, window, auto-relock. -/
def readZoneLoad : List Byte → Option Command
  | [z, i, f1, f0, m1, m0, mo, w, a] =>
    match readIntake i, readMode mo, readFlag a with
    | some i', some mo', some a' => some (.zoneLoad z i' (word16 f1 f0) (word16 m1 m0) mo' w a')
    | _, _, _ => none
  | _ => none

/-- LOCKER_SET: first, last, action, zone; the zone byte must be 0 unless the action is ZONE (4), and is
refused FORMAT, before the owner's checks, where it is not (DESIGN CHOICE, log 33). -/
def readLockerSet : List Byte → Option Command
  | [f1, f0, l1, l0, a, z] =>
    if a = 4 ∨ z = 0 then some (.lockerSet (word16 f1 f0) (word16 l1 l0) a z) else none
  | _ => none

/-- LOCKER_QUERY: first and last, or a zone. -/
def readLockerQuery : List Byte → Option Command
  | [f1, f0, l1, l0] => some (.lockerQuery (word16 f1 f0) (word16 l1 l0))
  | [z] => some (.lockerQueryZone z)
  | _ => none

/-- CABIN_CLASS_LOAD: class and the six fields. -/
def readCabinClassLoad : List Byte → Option Command
  | [k, a1, a0, e1, e0, m, w, n1, n0, b] =>
    some (.cabinClassLoad k (word16 a1 a0) (word16 e1 e0) m w (word16 n1 n0) b)
  | _ => none

/-- CABIN_SET: cabin, action, class; the class byte must be 0 unless the action is CLASS (3), and is refused FORMAT,
before the owner's checks, where it is not (DESIGN CHOICE, log 33). -/
def readCabinSet : List Byte → Option Command
  | [c, a, k] => if a = 3 ∨ k = 0 then some (.cabinSet c a k) else none
  | _ => none

/-- CABIN_QUERY: cabin. -/
def readCabinQuery : List Byte → Option Command
  | [c] => some (.cabinQuery c)
  | _ => none

/-- QUEUE_QUERY: class. -/
def readQueueQuery : List Byte → Option Command
  | [k] => some (.queueQuery k)
  | _ => none

/-- HEAD_ENROL: spur, address, type, parameter. -/
def readHeadEnrol : List Byte → Option Command
  | [s, a, t, p] => some (.headEnrol s a t p)
  | _ => none

/-- HEAD_REMOVE: spur, address. -/
def readHeadRemove : List Byte → Option Command
  | [s, a] => some (.headRemove s a)
  | _ => none

/-- POLL_PLAN: spur, bit rate, then one byte per fast-list address. -/
def readPollPlan : List Byte → Option Command
  | s :: r :: fast => if fast.length ≤ 58 then some (.pollPlan s r fast) else none
  | _ => none

/-- RESTART: spur mask. -/
def readRestart : List Byte → Option Command
  | [m] => (readNibble m).map .restart
  | _ => none

/-- WATCH_SET: entry, target type, mode, four target bytes. -/
def readWatchSet : List Byte → Option Command
  | [e, t, m, a, b, c, d] => some (.watchSet e t m (word32 a b c d))
  | _ => none

/-- WATCH_CLEAR: entry. -/
def readWatchClear : List Byte → Option Command
  | [e] => some (.watchClear e)
  | _ => none

/-- ALERT_PEEK: class. -/
def readAlertPeek : List Byte → Option Command
  | [c] => some (.alertPeek c)
  | _ => none

/-- ALERT_CLEAR: mask. -/
def readAlertClear : List Byte → Option Command
  | [m] => some (.alertClear m)
  | _ => none

/-- A kind whose body is empty. -/
def readEmpty (c : Command) : List Byte → Option Command
  | [] => some c
  | _ => none

/-- TIME_SET: minute. -/
def readTimeSet : List Byte → Option Command
  | [m1, m0] => some (.timeSet (word16 m1 m0))
  | _ => none

/-- LINES_LOAD: six line bytes. -/
def readLinesLoad : List Byte → Option Command
  | [a, b, c, d, e, f] =>
    match readLine a, readLine b, readLine c, readLine d, readLine e, readLine f with
    | some a', some b', some c', some d', some e', some f' => some (.linesLoad a' b' c' d' e' f')
    | _, _, _, _, _, _ => none
  | _ => none

/-- The checks of form of R175 for a kind, and the command the body spells; `none` is refused FORMAT. -/
def readBody (k : FrameKind) (body : List Byte) : Option Command :=
  match k with
  | .bandIssue => readBandIssue body
  | .bandCredit => readBandCredit body
  | .bandBar => readBandBar body
  | .bandVoid => readBandVoid body
  | .bandReplace => readBandReplace body
  | .bandQuery => readBandQuery body
  | .classLoad => readClassLoad body
  | .tariffLoad => readTariffLoad body
  | .scheduleLoad => readScheduleLoad body
  | .controlLoad => readControlLoad body
  | .zoneLoad => readZoneLoad body
  | .lockerSet => readLockerSet body
  | .lockerQuery => readLockerQuery body
  | .cabinClassLoad => readCabinClassLoad body
  | .cabinSet => readCabinSet body
  | .cabinQuery => readCabinQuery body
  | .queueQuery => readQueueQuery body
  | .headEnrol => readHeadEnrol body
  | .headRemove => readHeadRemove body
  | .pollPlan => readPollPlan body
  | .restart => readRestart body
  | .watchSet => readWatchSet body
  | .watchClear => readWatchClear body
  | .alertFetch => readEmpty .alertFetch body
  | .alertPeek => readAlertPeek body
  | .alertClear => readAlertClear body
  | .pause => readEmpty .pause body
  | .resume => readEmpty .resume body
  | .timeSet => readTimeSet body
  | .openDay => readEmpty .openDay body
  | .dayClose => readEmpty .dayClose body
  | .linesLoad => readLinesLoad body
  | .statusQuery => readEmpty .statusQuery body

/-! ## Bodies of the downstream frames, laid out (R182) -/

/-- The kind that carries a command. -/
def Command.kind : Command → FrameKind
  | .bandIssue .. => .bandIssue | .bandCredit .. => .bandCredit | .bandBar .. => .bandBar
  | .bandVoid .. => .bandVoid | .bandReplace .. => .bandReplace | .bandQuery .. => .bandQuery
  | .classLoad .. => .classLoad | .tariffLoad .. => .tariffLoad | .scheduleLoad .. => .scheduleLoad
  | .controlLoad .. => .controlLoad | .zoneLoad .. => .zoneLoad | .lockerSet .. => .lockerSet
  | .lockerQuery .. => .lockerQuery | .lockerQueryZone .. => .lockerQuery
  | .cabinClassLoad .. => .cabinClassLoad | .cabinSet .. => .cabinSet | .cabinQuery .. => .cabinQuery
  | .queueQuery .. => .queueQuery | .headEnrol .. => .headEnrol | .headRemove .. => .headRemove
  | .pollPlan .. => .pollPlan | .restart .. => .restart | .watchSet .. => .watchSet
  | .watchClear .. => .watchClear | .alertFetch => .alertFetch | .alertPeek .. => .alertPeek
  | .alertClear .. => .alertClear | .pause => .pause | .resume => .resume | .timeSet .. => .timeSet
  | .openDay => .openDay | .dayClose => .dayClose | .linesLoad .. => .linesLoad | .statusQuery => .statusQuery

/-- The body of the frame that carries a command: its fields in the order its rule names them. -/
def Command.body : Command → List Byte
  | .bandIssue s k none _ => bytes32 s ++ [k]
  | .bandIssue s k (some g) none => bytes32 s ++ [k] ++ bytes16 g
  | .bandIssue s k (some g) (some c) => bytes32 s ++ [k] ++ bytes16 g ++ bytes16 c
  | .bandCredit s a => bytes32 s ++ bytes16 a
  | .bandBar s on => bytes32 s ++ flagByte on
  | .bandVoid s => bytes32 s
  | .bandReplace o n => bytes32 o ++ bytes32 n
  | .bandQuery s => bytes32 s
  | .classLoad k h f a g m => [k, h, 0#4 ++ f] ++ bytes16 a ++ [g, 0#4 ++ m]
  | .tariffLoad s k t p c => [s, k, t] ++ bytes16 p ++ bytes16 c
  | .scheduleLoad ps => ps.flatMap (fun p => bytes16 p.1 ++ [p.2])
  | .controlLoad h s r a t => [h, s, r, a, t]
  | .zoneLoad z i f m mo w a => [z, 0#5 ++ i] ++ bytes16 f ++ bytes16 m ++ [mo.code, w] ++ flagByte a
  | .lockerSet f l a z => bytes16 f ++ bytes16 l ++ [a, z]
  | .lockerQuery f l => bytes16 f ++ bytes16 l
  | .lockerQueryZone z => [z]
  | .cabinClassLoad k a e m w n b => [k] ++ bytes16 a ++ bytes16 e ++ [m, w] ++ bytes16 n ++ [b]
  | .cabinSet c a k => [c, a, k]
  | .cabinQuery c => [c]
  | .queueQuery k => [k]
  | .headEnrol s a t p => [s, a, t, p]
  | .headRemove s a => [s, a]
  | .pollPlan s r fast => s :: r :: fast
  | .restart m => [0#4 ++ m]
  | .watchSet e t m g => [e, t, m] ++ bytes32 g
  | .watchClear e => [e]
  | .alertFetch => []
  | .alertPeek c => [c]
  | .alertClear m => [m]
  | .pause => []
  | .resume => []
  | .timeSet m => bytes16 m
  | .openDay => []
  | .dayClose => []
  | .linesLoad a b c d e f => [lineByte a, lineByte b, lineByte c, lineByte d, lineByte e, lineByte f]
  | .statusQuery => []

/-- The commands some body spells: credit is carried only behind a group, the zone and class bytes only with their
actions, and the lists fit a frame (R182). -/
def Command.spelled : Command → Prop
  | .bandIssue _ _ g c => g = none → c = none
  | .scheduleLoad ps => ps.length ≤ 20
  | .lockerSet _ _ a z => a = 4 ∨ z = 0
  | .cabinSet _ a k => a = 3 ∨ k = 0
  | .pollPlan _ _ fast => fast.length ≤ 58
  | _ => True

/-! ## Reply frames of the heads (R157, R158, R184) -/

/-- Head types by code. -/
def readHeadType (b : Byte) : Option HeadType :=
  if b = 0 then some .lock else if b = 1 then some .cabin else if b = 2 then some .kiosk
  else if b = 3 then some .exit else none

/-- Door states by code. -/
def readDoor (b : Byte) : Option Door :=
  if b = 0 then some .opened else if b = 1 then some .shut else if b = 2 then some .unknown else none

/-- Bolt positions by code. -/
def readBolt (b : Byte) : Option Bolt :=
  if b = 0 then some .thrown else if b = 1 then some .retracted else if b = 2 then some .unknown else none

/-- Directions by code. -/
def readDirection (b : Byte) : Option Direction :=
  if b = 0 then some .throw else if b = 1 then some .retract else none

/-- The result code of a BOLT item. -/
def readOutcome (b : Byte) : Option BoltOutcome :=
  if b = 0 then some .done else if b = 1 then some (.failed .thrown) else if b = 2 then some (.failed .retracted)
  else if b = 3 then some (.failed .unknown) else none

/-- A door byte of a STATUS item: door state in bits 0 and 1, bolt position in bits 2 and 3. The other bits are
not read. DESIGN CHOICE, log 16. -/
def readDoorByte (b : Byte) : Option (Door × Bolt) :=
  match readDoor (0#6 ++ b.extractLsb' 0 2), readBolt (0#6 ++ b.extractLsb' 2 2) with
  | some d, some p => some (d, p)
  | _, _ => none

/-- The door bytes of a STATUS item. -/
def readDoorBytes : List Byte → Option (List (Door × Bolt))
  | [] => some []
  | b :: bs =>
    match readDoorByte b, readDoorBytes bs with
    | some d, some ds => some (d :: ds)
    | _, _ => none

/-- One item at the front of a body, with the rest of the body; `none` if it cannot be parsed. -/
def readItem : List Byte → Option (ReplyItem × List Byte)
  | 0x11 :: r :: a :: b :: c :: d :: rest => some (.tap r (word32 a b c d), rest)
  | 0x12 :: i :: s :: rest => (readDoor s).map (fun d => (.door i d, rest))
  | 0x13 :: i :: dir :: o :: rest =>
    match readDirection dir, readOutcome o with
    | some dir', some o' => some (.bolt i dir' o', rest)
    | _, _ => none
  | 0x14 :: t :: n :: rest =>
    if n.toNat ≤ 8 ∧ n.toNat ≤ rest.length then
      match readHeadType t, readDoorBytes (rest.take n.toNat) with
      | some t', some ds => some (.status t' ds, rest.drop n.toNat)
      | _, _ => none
    else none
  | _ => none

/-- At most `fuel` items that fill a body exactly; `none` if they do not (R157). -/
def readItems : Nat → List Byte → Option (List ReplyItem)
  | _, [] => some []
  | 0, _ => none
  | fuel + 1, bs =>
    match readItem bs with
    | some (it, rest) => (readItems fuel rest).map (it :: ·)
    | none => none

/-- A byte whose status is clear (R157). -/
def RxByte.clear (b : RxByte) : Bool := !b.framing && !b.parity && !b.overrun

/-- A complete reply judged against the address polled: the more flag and the items of a good reply, `none` for a
miss (R156, R157, R184). Bytes past the length its header carries are not part of it. -/
def readReply (polled : Fin 32) (bytes : List RxByte) : Option (Bool × List ReplyItem) :=
  match bytes.map RxByte.value with
  | start :: addr :: flags :: len :: rest =>
    let n := len.toNat
    if start = 0xC3 ∧ n ≤ 44 ∧ n + 2 ≤ rest.length ∧ (bytes.take (n + 6)).all RxByte.clear = true
        ∧ addr.toNat = polled.val
        ∧ bytes16 (crc16 (addr :: flags :: len :: rest.take n)) = (rest.drop n).take 2 then
      (readItems 4 (rest.take n)).map (fun its => (flags.getLsbD 0, its))
    else none
  | _ => none

/-! ## The opcode table's words -/

/-- The opcode table gives no row any bits: no word spells a command. -/
def decodeTableWord (_nbits _w : Nat) : Option Instr := none

end Sys2Proof
end

