-- ==== Sys2Proof/Machine/Wire.lean ====
section
/-! DEFINITION. The byte layouts of what the W316 sends (R182, R183, R184): records, replies with their segments,
upstream frames and poll frames. Where R183 leaves the layout of some data open, log 13 says what is laid out. -/
namespace Sys2Proof.Machine

/-! ## Codes -/

/-- Band states ACTIVE 0, BARRED 1, DUE 2 (R182). -/
def BandState.code : BandState → Nat
  | .active => 0 | .barred => 1 | .due => 2

/-- Roles CALLED 0, OCCUPANT 1. -/
def CabinRole.code : CabinRole → Nat
  | .called => 0 | .occupant => 1

/-- Directions THROW 0, RETRACT 1 (R184). -/
def directionCode : Direction → Nat
  | .throw => 0 | .retract => 1

/-- Purposes CLAIM 1 to EVAC 8 (R183). -/
def Purpose.code : Purpose → Nat
  | .claim => 1 | .relock => 2 | .opening => 3 | .staffOpen => 4 | .admission => 5 | .secure => 6 | .reset => 7
  | .evac => 8

/-- Locker states VERIFY 1 to OUT_OF_SERVICE 8; ABSENT is 0 (R182). -/
def LockerState.code : LockerState → Nat
  | .verify => 1 | .vacant => 2 | .reserved => 3 | .locked => 4 | .released => 5 | .inspect => 6 | .jammed => 7
  | .outOfService => 8

/-- Doors OPEN 0, SHUT 1, UNKNOWN 2. -/
def doorCode : Door → Nat
  | .opened => 0 | .shut => 1 | .unknown => 2

/-- Bolts THROWN 0, RETRACTED 1, UNKNOWN 2. -/
def boltCode : Bolt → Nat
  | .thrown => 0 | .retracted => 1 | .unknown => 2

/-- Cabin states DISABLED 0 to EVACUATED 7, in the order of R99. -/
def CabinState.code : CabinState → Nat
  | .disabled => 0 | .free => 1 | .called => 2 | .admitting => 3 | .occupied => 4 | .overtime => 5 | .vacating => 6
  | .evacuated => 7

/-- Phases OUTSIDE 0, INSIDE 1. -/
def Phase.code : Phase → Nat
  | .outside => 0 | .inside => 1

/-- Status waits none 0, REOPEN 1, RESET 2. -/
def StatusWait.code : StatusWait → Nat
  | .nothing => 0 | .reopen => 1 | .reset => 2

/-- Head states UNENROLLED 0 (not listed), IDENTIFYING 1 to MISMATCHED 4 (R161, R182). -/
def HeadState.code : HeadState → Nat
  | .identifying => 1 | .online => 2 | .silent => 3 | .mismatched => 4

/-- Bit rates 0 to 3 (R182). -/
def BitRate.code : BitRate → Nat
  | .b9600 => 0 | .b19200 => 1 | .b38400 => 2 | .b57600 => 3

/-- Day states CLOSED 0, OPEN 1, CLOSING 2. -/
def DayState.code : DayState → Nat
  | .closed => 0 | .opened => 1 | .closing => 2

/-- Refusal codes FORMAT 1 to CLOCK_UNSET 8 (R183). -/
def RefusalCode.code : RefusalCode → Nat
  | .format => 1 | .range => 2 | .state => 3 | .notFound => 4 | .inUse => 5 | .full => 6 | .busy => 7
  | .clockUnset => 8

/-- The reasons of RED, CLOSED 1 to PAY_DUE 21 (R184). -/
def RedReason.code : RedReason → Nat
  | .closed => 1 | .unknownBand => 2 | .staff => 3 | .barred => 4 | .evacuation => 5 | .notHolder => 6
  | .outOfService => 7 | .doorOpen => 8 | .zoneShut => 9 | .useKiosk => 10 | .classExcluded => 11 | .limit => 12
  | .inspect => 13 | .noFree => 14 | .inCabin => 15 | .queuedElsewhere => 16 | .queueFull => 17 | .overtime => 18
  | .noExtend => 19 | .lockerHeld => 20 | .payDue => 21

/-- An optional field of `n` bytes: a presence byte, then its bytes, zeros when absent (R182). -/
def optional {α : Type} (n : Nat) (f : α → List Byte) : Option α → List Byte
  | some x => [1] ++ f x
  | none => [0] ++ List.replicate n 0

/-- A lamp pattern: OFF 0, STEADY 1, BLINK 2, with P and Q (R184). P and Q of OFF and STEADY are sent as 0
(DESIGN CHOICE, log 13). -/
def lampBytes : Lamp → List Byte
  | .off => [0, 0, 0]
  | .steady => [1, 0, 0]
  | .blink p q => [2] ++ num8 p ++ num8 q

/-! ## Poll frames (R184) -/

/-- The signal, reason and value bytes of a SHOW. -/
def Signal.bytes : Signal → List Byte
  | .green => [0, 0] ++ num16 0
  | .red r amount => [1] ++ num8 r.code ++ num16 (min amount 9999)
  | .amber => [2, 0] ++ num16 0
  | .number n => [3, 0] ++ num16 n
  | .ticket n => [4, 0] ++ num16 n

/-- An item of a poll frame. -/
def CmdItem.bytes : CmdItem → List Byte
  | .showAt r s => [0x01] ++ num8 r.val ++ s.bytes
  | .actuate d dir => [0x02] ++ num8 d.val ++ num8 (directionCode dir)
  | .lamp p => [0x03] ++ lampBytes p
  | .ident => [0x04]
  | .gate => [0x05]

/-- A poll frame: start, head address, length, items, CRC from the address to the end of the body. -/
def pollFrame (address : Fin 32) (items : List CmdItem) : List Byte :=
  let body := items.flatMap CmdItem.bytes
  let inner := num8 address.val ++ num8 body.length ++ body
  [0x3C] ++ inner ++ bytes16 (crc16 inner)

/-! ## Records (R183) -/

/-- A door as FAILED and ABANDONED carry it: type, then number. -/
def doorBytes : DoorId → List Byte
  | .locker n => [0] ++ num16 n.val
  | .cabin n => [1] ++ num16 n.val

/-- A serial that may be absent, zeros when it is. -/
def serialBytes (x : Option Serial) : List Byte := bytes32 (x.getD 0)

/-- The record kind codes CLAIM 1 to DAY_CLOSED 16. -/
def RecordBody.code : RecordBody → Nat
  | .action p .. => p.code
  | .giveUp .. => 5 | .failed .. => 6 | .abandoned .. => 7 | .reserve .. => 8 | .reserveLapsed .. => 9
  | .cabinIn .. => 10 | .cabinOut .. => 11 | .callLapsed .. => 12 | .exit .. => 13 | .exitDue .. => 14
  | .close .. => 15 | .dayClosed .. => 16

/-- The band serial of a record, if it carries one (R144). -/
def RecordBody.serial : RecordBody → Option Serial
  | .action _ _ h _ _ => h
  | .giveUp _ x => some x
  | .failed _ x _ _ _ _ => x
  | .abandoned _ x _ _ _ => x
  | .reserve _ x _ => some x
  | .reserveLapsed _ x => x
  | .cabinIn _ x _ => x
  | .cabinOut _ x _ _ _ _ => x
  | .callLapsed _ x _ => x
  | .exit t _ => some t.serial
  | .exitDue t => some t.serial
  | .close t => some t.serial
  | .dayClosed _ => none

/-- The requester a record's frame carries, if it carries one (R144, R183): the layout of ABANDONED has none (log 30). -/
def RecordBody.requester : RecordBody → Option Serial
  | .action _ _ _ r _ => r
  | .failed _ _ r _ _ _ => r
  | _ => none

/-- The EVAC flag of a record (R144). -/
def RecordBody.evac : RecordBody → Bool
  | .cabinOut _ _ _ _ e _ => e
  | .exit _ e => e
  | _ => false

/-- The NOT_ENTERED flag of a record (R144). -/
def RecordBody.notEntered : RecordBody → Bool
  | .cabinOut _ _ _ _ _ n => n
  | _ => false

/-- The ORPHANED flag of a record (R144). -/
def RecordBody.orphaned : RecordBody → Bool
  | .action _ _ _ _ o => o
  | .failed _ _ _ _ _ o => o
  | .abandoned _ _ _ _ o => o
  | _ => false

/-- The flags byte of a record: EVAC 01h, NOT_ENTERED 02h, ORPHANED 04h, serial present 08h, requester present 10h. -/
def RecordBody.flags (b : RecordBody) : Byte :=
  BitVec.ofNat 8 (b.evac.toNat + 2 * b.notEntered.toNat + 4 * b.orphaned.toNat + 8 * b.serial.isSome.toNat
    + 16 * b.requester.isSome.toNat)

/-- The fields of EXIT, EXIT_DUE and CLOSE after the common part. -/
def TallyFields.bytes (t : TallyFields) : List Byte :=
  num8 t.set.val ++ num8 t.cls.val ++ num16 t.exitMinute ++ num16 t.stay ++ num16 t.charge ++ num16 t.fees
    ++ num16 t.total ++ num16 t.credit ++ num16 t.due

/-- The fields after the common part, by kind. -/
def RecordBody.fields : RecordBody → List Byte
  | .action _ l _ r _ => num16 l.val ++ serialBytes r
  | .giveUp l _ => num16 l.val
  | .failed d _ r p n _ => doorBytes d ++ serialBytes r ++ num8 p.code ++ num8 n
  | .abandoned d _ _ p _ => doorBytes d ++ num8 p.code
  | .reserve l _ w => num16 l.val ++ num8 w
  | .reserveLapsed l _ => num16 l.val
  | .cabinIn c _ t => num8 c.val ++ num8 (t.getD 0)
  | .cabinOut c _ o e _ _ => num8 c.val ++ num16 o ++ num8 e
  | .callLapsed c _ t => num8 c.val ++ num8 (t.getD 0)
  | .exit t _ => t.bytes
  | .exitDue t => t.bytes
  | .close t => t.bytes
  | .dayClosed n => num16 n

/-- A record's body: frame number, kind, site minute, flags, serial, then the fields of its kind. -/
def Record.bytes (r : Record) (frameNumber : BitVec 8) : List Byte :=
  [frameNumber] ++ num8 r.body.code ++ num16 r.minute ++ [r.body.flags] ++ serialBytes r.body.serial ++ r.body.fields

/-! ## Alerts in replies (R183) -/

/-- Subject type and the four subject bytes. -/
def AlertSubject.bytes : AlertSubject → List Byte
  | .band x => [0] ++ bytes32 x
  | .locker n => [1, 0, 0] ++ num16 n.val
  | .cabin n => [2, 0, 0, 0] ++ num8 n.val
  | .head sp a => [3, 0, 0] ++ num8 sp.val ++ num8 a.val
  | .line n => [4, 0, 0, 0] ++ num8 n.val

/-- The detail code, by class. -/
def AlertDetail.code : AlertDetail → Nat
  | .asserted => 1
  | .lockerState s => s.code
  | .purpose p => p.code
  | .found => 0
  | .headState s => s.code
  | .strikes n => n
  | .entry n => n.val
  | .cause .removed => 0
  | .cause .orphaned => 1
  | .cause .found => 2
  | .extensions n => n

/-- The 11 bytes of a latch in a reply: class, full, sequence, minute, subject type, subject, detail. A fetch with
nothing full sends sequence number 0 (DESIGN CHOICE, log 13). -/
def alertBytes : Option (AlertClass × Latch) → List Byte
  | none => List.replicate 11 0
  | some (c, l) =>
    match l.notice with
    | some n => num8 c.number ++ [1] ++ num8 l.sequence ++ num16 n.minute ++ n.subject.bytes ++ num8 n.detail.code
    | none => num8 c.number ++ [0] ++ num8 l.sequence ++ List.replicate 8 0

/-! ## Reply data (R183; log 13 where it is silent) -/

/-- The four features of a class descriptor as a set (R182). -/
def ClassDesc.features (d : ClassDesc) : Byte :=
  BitVec.ofNat 8 (d.share.toNat + 2 * d.extend.toNat + 4 * d.staff.toNat + 8 * d.strictExit.toNat)

/-- A zone descriptor. -/
def Zone.bytes (z : Zone) : List Byte :=
  num8 z.intake ++ num16 z.fee ++ bytes16 z.classMask ++ [z.mode.code] ++ num8 z.window ++ flagByte z.autoRelock

/-- A cabin-class descriptor. -/
def CabinParams.bytes (p : CabinParams) : List Byte :=
  num16 p.allowance ++ num16 p.extension ++ num8 p.maxExtensions ++ num8 p.callWindow ++ num16 p.warning
    ++ num8 p.blink

/-- A watch entry as it stood: clear, or target type, target, mode and armed flag. -/
def watchBytes : Option Watch → List Byte :=
  optional 7 (fun w =>
    (match w.target with
      | .band x => [0] ++ bytes32 x
      | .range f l => [1] ++ num16 f.val ++ num16 l.val)
    ++ (match w.mode with | .note => num8 0 | .hold => num8 1) ++ flagByte w.armed)

/-- A band record with the states of its lockers. -/
def BandReport.bytes (r : BandReport) : List Byte :=
  let b := r.band
  num16 r.slot ++ bytes32 b.serial ++ num8 b.state.code ++ num8 b.cls.val ++ num16 b.group ++ num16 b.entryMinute
    ++ num8 b.tariffSet.val ++ num16 b.credit ++ num16 b.fees ++ num8 b.strikes
    ++ num8 b.holdings.length ++ b.holdings.flatMap (fun n => num16 n.val)
    ++ optional 2 (fun l => num8 l.cabin.val ++ num8 l.role.code) b.cabinLink
    ++ optional 2 (fun l => num8 l.cls.val ++ num8 l.ticket) b.queueLink
    ++ optional 5 (fun f => num16 f.minute ++ num24 f.deadline) b.frozen
    ++ r.lockers.flatMap (fun e => num8 ((e.1.map LockerState.code).getD 0) ++ flagByte e.2)

/-- One locker of a LOCKER_QUERY, ABSENT included: 16 bytes. -/
def lockerBytes : Option LockerReport → List Byte
  | none => List.replicate 16 0
  | some r =>
    num8 r.state.code ++ num8 r.zone.val ++ optional 4 bytes32 r.holder ++ num8 (doorCode r.door)
      ++ num8 (boltCode r.bolt) ++ optional 1 num8 r.secondsLeft
      ++ optional 4 (fun a => num8 (directionCode a.1) ++ num8 a.2.1.code ++ num8 a.2.2.1 ++ flagByte a.2.2.2) r.action

/-- A cabin entry with its seconds left, lamp and action. Each deadline is sent once, as presence and seconds left in
the place of its field, and the countdown once, as the remaining seconds (DESIGN CHOICE, log 13). -/
def CabinReport.bytes (r : CabinReport) : List Byte :=
  let c := r.entry
  num8 r.number.val ++ num8 c.cls.val ++ num8 c.state.code ++ optional 4 bytes32 c.band ++ num8 (doorCode c.door)
    ++ num8 c.phase.code ++ flagByte c.entered ++ num16 r.remaining ++ num8 c.extensions ++ num16 r.overtime
    ++ optional 1 num8 r.callLeft ++ optional 1 num8 r.entryLeft ++ flagByte c.deferred ++ optional 1 num8 c.ticket
    ++ num8 c.statusWait.code ++ c.latched.bytes ++ flagByte c.slot ++ lampBytes c.lamp
    ++ optional 3 (fun a => num8 (directionCode a.direction) ++ num8 a.purpose.code ++ num8 a.attempt) c.action

/-- A queue entry: 7 bytes. -/
def QueueEntry.bytes (e : QueueEntry) : List Byte := bytes32 e.serial ++ num8 e.ticket ++ num16 e.joinMinute

/-- The state of the whole part (R193), its on/off fields and its taken levels coded as log 34 says. The taken levels are
six pairs of presence and level, L0 to L5, absent for an output, and no counted list of the input lines (DESIGN CHOICE,
log 13). -/
def StatusReport.bytes (r : StatusReport) : List Byte :=
  num8 r.station.val ++ num8 r.day.code ++ optional 2 num16 r.minuteOfDay ++ num16 r.siteMinute ++ num16 r.cursor
    ++ flagByte r.waiting ++ num16 r.bands ++ flagByte r.evacuation ++ r.levels.flatMap (optional 1 flagByte)
    ++ flagByte r.paused ++ num8 r.records ++ num8 r.reserved ++ num8 r.attention
    ++ r.heads.flatMap (fun l => l.flatMap num8)

/-- A list cut into runs of at most `n + 1`, with `fuel` runs at most. -/
def chunks {α : Type} (n : Nat) : Nat → List α → List (List α)
  | _, [] => []
  | 0, _ => []
  | fuel + 1, l => l.take (n + 1) :: chunks n fuel (l.drop (n + 1))

/-- The data of a reply cut into segments of at most 58 bytes (R179, R183). A line's taken level is sent as 1 when
asserted, 0 when released (DESIGN CHOICE, log 34). -/
def ReplyData.segments : ReplyData → List (List Byte)
  | .nothing => [[]]
  | .issued n entry k => [num16 n ++ num16 entry ++ num8 k.val]
  | .credit n => [num16 n]
  | .barred st ended => [num8 st.code ++ flagByte ended]
  | .unbarred st => [num8 st.code]
  | .voided n i o => [num16 n ++ num8 i ++ num8 o]
  | .slot n => [num16 n]
  | .band r => [r.bytes]
  | .classDesc d => [num8 d.holdLimit ++ [d.features] ++ num16 d.allowance ++ num8 d.grace ++ [0#4 ++ d.cabinMask]]
  | .tariff t => [num8 t.step ++ num16 t.price ++ num16 t.cap]
  | .schedule n set => [num8 n ++ optional 1 (fun k => num8 k.val) set]
  | .control c =>
    [num8 c.tallyHold ++ num8 c.strikeLimit ++ num8 c.retries ++ num8 c.actuation ++ num8 c.replyTimeout]
  | .zone z => [z.bytes]
  | .changed n => [num16 n]
  | .lockers l =>
    (num8 l.length ++ (l.take 3).flatMap lockerBytes) :: (chunks 2 4 (l.drop 3)).map (fun c => c.flatMap lockerBytes)
  | .zoneReport r => [r.zone.bytes ++ num16 r.rotor.val ++ r.counts.flatMap num16 ++ num16 r.inFlight]
  | .cabinParams p => [p.bytes]
  | .cabinState st => [num8 st.code]
  | .cabin r => [r.bytes]
  | .queue r =>
    (num8 r.entries.length ++ num8 r.ticket ++ num8 r.free ++ num8 r.deferred
      ++ (r.entries.take 7).flatMap QueueEntry.bytes)
    :: (chunks 7 2 (r.entries.drop 7)).map (fun c => c.flatMap QueueEntry.bytes)
  | .headState st => [num8 st.code]
  | .plan rate fast => [num8 rate.code ++ num8 fast.length ++ fast.flatMap (fun a => num8 a.val)]
  | .restarted h a => [num8 h ++ num16 a]
  | .watch w => [watchBytes w]
  | .alert l => [alertBytes l]
  | .attention n => [num8 n]
  | .records p q r => [flagByte p ++ num8 q ++ num8 r]
  | .time m s => [num16 m ++ num16 s]
  | .opened m => [num16 m]
  | .closing n m => [num16 n ++ num16 m]
  | .lines l =>
    [l.flatMap (fun x => [lineByte (x.function, x.inverted)]
      ++ optional 1 flagByte (if isInput x.function then some x.taken else none))]
  | .status r => [r.bytes]

/-! ## Upstream frames (R182, R183) -/

/-- The segment byte: the number in the low 2 bits, the top bit set in the last segment. -/
def segmentByte (n : Nat) (last : Bool) : Byte := BitVec.ofNat 8 (n % 4 + 128 * last.toNat)

/-- The kind code and body of a reply's frames, in order: one frame per segment (ACCEPTED E0h, REFUSED E1h). -/
def Reply.bodies (r : Reply) : List (Byte × List Byte) :=
  match r.result with
  | .accepted d =>
    let segs := d.segments
    segs.zipIdx.map (fun e => (0xE0, [r.kind, segmentByte e.2 (e.2 + 1 == segs.length)] ++ e.1))
  | .refused c => [(0xE1, [r.kind] ++ num8 c.code)]

/-- An upstream frame: start, station, kind, attention code, length, body, CRC from the station to the body's end. -/
def upstreamFrame (station : Fin 16) (kind : Byte) (attention : Nat) (body : List Byte) : List Byte :=
  let inner := num8 station.val ++ [kind] ++ num8 attention ++ num8 body.length ++ body
  [0xA5] ++ inner ++ bytes16 (crc16 inner)

end Sys2Proof.Machine
end

