-- ==== Sys2Proof/Machine/Trunk.lean ====
section
/-! DEFINITION. The Trunk Port (10): the receive assembly, the judging and answering of frames, and the transmit
arbiter, which ends every event. -/
namespace Sys2Proof.Machine

/-! ## The transmit arbiter (R179 to R181) -/

/-- A segment of a reply begins, or the transmitter is free if the reply has no such segment. -/
def State.beginSegment (s : State) (r : Reply) (n : Nat) : State :=
  match r.bodies[n]? with
  | some (kind, body) =>
    { s with trunk := { s.trunk with arbiter := .sendingReply n
                                     txFrame := upstreamFrame s.trunk.station kind s.attention body } }
  | none => { s with trunk := { s.trunk with arbiter := .idle, txFrame := [] } }

/-- A record frame begins (R181): the frame number is raised by 1 and the record goes into the frame. -/
def State.beginRecord (s : State) (r : Record) : State :=
  let n := s.trunk.frameNumber + 1
  { s with trunk := { s.trunk with arbiter := .sendingRecord, frameNumber := n
                                   txFrame := upstreamFrame s.trunk.station 0xE2 s.attention (r.bytes n) } }

/-- The arbiter's choice with the transmitter free (R180): the oldest reply, else the oldest record while the queue is
not paused, else none. -/
def State.arbitrate (s : State) : State :=
  match s.trunk.arbiter with
  | .idle =>
    match s.trunk.replies, s.queue.paused, s.queue.records with
    | r :: _, _, _ => s.beginSegment r 0
    | [], false, r :: _ => s.beginRecord r
    | [], _, _ => s
  | _ => s

/-- The transmitter is free again: the frame in it has gone. -/
def State.freeTransmitter (s : State) : State :=
  { s with trunk := { s.trunk with arbiter := .idle, txFrame := [] } }

/-- One event: it is counted, it takes effect, and the arbiter chooses if the transmitter is free (log 6). -/
def event (f : State → State) (s : State) : Host.Outcome State Fault Refusal :=
  .next (f { s with eventNo := s.eventNo + 1 }).arbitrate

/-! ## The receive assembly (R173) -/

/-- The assembly hunting for a start byte, its buffer empty. -/
def Assembly.hunting : Assembly := ⟨.hunt, []⟩

/-- A frame that the assembly has completed: kind, frame and CRC as received. -/
abbrev CompleteFrame := Byte × Frame × BitVec 16

/-- The frame in a full buffer: station, kind, length, body, CRC high, CRC low. -/
def completeFrame (buffer : List Byte) : Option CompleteFrame :=
  match buffer with
  | station :: kind :: len :: rest =>
    match rest.drop len.toNat with
    | [hi, lo] => some (kind, ⟨station, rest.take len.toNat⟩, word16 hi lo)
    | _ => none
  | _ => none

/-- One byte taken by the assembly (R173), and the frame it completes, if it does. -/
def Assembly.take (a : Assembly) (b : TrunkByte) : Assembly × Option CompleteFrame :=
  let buffer := a.buffer ++ [b.value]
  let length := (buffer[2]?.getD 0).toNat
  match a.phase, b.framing with
  | .hunt, true => (a, none)
  | .hunt, false => if b.value = 0xA5 then (⟨.header, []⟩, none) else (a, none)
  | _, true => (.hunting, none)
  | .header, false =>
    if buffer.length < 3 then (⟨.header, buffer⟩, none)
    else if 60 < length then (.hunting, none)
    else if length = 0 then (⟨.check, buffer⟩, none)
    else (⟨.body, buffer⟩, none)
  | .body, false => if buffer.length < length + 3 then (⟨.body, buffer⟩, none) else (⟨.check, buffer⟩, none)
  | .check, false =>
    if buffer.length < length + 5 then (⟨.check, buffer⟩, none) else (.hunting, completeFrame buffer)

/-- The state with the receive assembly. -/
def State.putAssembly (s : State) (a : Assembly) : State := { s with trunk := { s.trunk with assembly := a } }

/-! ## Taking and answering a frame (R174 to R178) -/

/-- A frame whose CRC is right is taken (R174): addressed to every station, or to this one while fewer than four replies
wait. A body of more than 60 bytes never completes (R173). -/
def State.takes (s : State) (f : Frame) : Bool :=
  f.body.length ≤ 60 &&
    (f.station == Config.broadcast
      || (f.station.toNat == s.trunk.station.val && decide (s.trunk.replies.length < Config.replyPlaces)))

/-- A reply joins the tail of the list (R179). -/
def State.joinReply (s : State) (r : Reply) : State :=
  { s with trunk := { s.trunk with replies := s.trunk.replies ++ [r] } }

/-- The kinds that exist only to produce a reply (R178). -/
def queryOnly : FrameKind → Bool
  | .bandQuery | .lockerQuery | .cabinQuery | .queueQuery | .alertPeek | .statusQuery | .alertFetch => true
  | _ => false

/-- A verdict carried out and answered; a broadcast frame is carried out and not answered (R176, R178). -/
def State.answerFrame (s : State) (kind : Byte) (f : Frame) (v : Verdict) : State :=
  match v, f.station == Config.broadcast with
  | .accepted s' d, false => s'.joinReply ⟨kind, .accepted d⟩
  | .accepted s' _, true => s'
  | .refused c, false => s.joinReply ⟨kind, .refused c⟩
  | .refused _, true => s

/-- A complete frame whose CRC is right, with the owner of the commands: dropped, refused FORMAT, discarded as a
broadcast query, or handed to its owner and answered (R174 to R178). -/
def State.takeFrame (owner : Command → State → Verdict) (kind : Byte) (f : Frame) (s : State) : State :=
  let s := s.putAssembly .hunting
  if s.takes f then
    match (FrameKind.ofCode kind).bind (fun k => readBody k f.body) with
    | none => s.answerFrame kind f (.refused .format)
    | some c =>
      if queryOnly c.kind && f.station == Config.broadcast then s
      else s.answerFrame kind f (owner c s)
  else s

/-- The CRC of a downstream frame (R174): from the station to the end of the body. -/
def frameCrc (f : Frame) (kind : Byte) : BitVec 16 :=
  crc16 (f.station :: kind :: BitVec.ofNat 8 f.body.length :: f.body)

/-- A complete frame with the CRC it came with (R174): dropped if the CRC is wrong. -/
def State.judgeFrame (owner : Command → State → Verdict) (c : CompleteFrame) (s : State) : State :=
  if frameCrc c.2.1 c.1 = c.2.2 then s.takeFrame owner c.1 c.2.1 else s.putAssembly .hunting

/-- One byte arrives on the trunk (R173): it is taken by the assembly, and a frame it completes is judged, after which
the arbiter chooses if the transmitter is free, before the next byte (R180; log 5). -/
def State.takeByte (owner : Command → State → Verdict) (s : State) (b : TrunkByte) : State :=
  let r := s.trunk.assembly.take b
  let s := s.putAssembly r.1
  match r.2 with
  | some c => (s.judgeFrame owner c).arbitrate
  | none => s

/-- A frame to this station, as the site server sends a command (R182). -/
def State.frameFor (s : State) (c : Command) : Frame := ⟨BitVec.ofNat 8 s.trunk.station.val, c.body⟩

end Sys2Proof.Machine
end

