-- ==== Sys2Proof/Machine/Day.lean ====
section
/-! DEFINITION. The site clock, the day, the close walk, the leaving of records and replies, and STATUS_QUERY (08 R145,
10 R179, 11 R185 to R190, R193). -/
namespace Sys2Proof.Machine

/-! ## The clock (R185, R186) -/

/-- The minute of day advanced by 1, wrapping from 1439 to 0. -/
def nextMinuteOfDay (m : Nat) : Nat := if 1439 ≤ m then 0 else m + 1

/-- A site clock at a minute event (R185). -/
def SiteClock.advance (c : SiteClock) : SiteClock :=
  { c with minuteOfDay := c.minuteOfDay.map nextMinuteOfDay
           siteMinute := if c.day = .closed then c.siteMinute else satAdd c.siteMinute 1
           minuteDue := c.minuteDue + 60000 }

/-- A minute event (R185): the timer expires and starts again at once. -/
def State.minute (s : State) : State :=
  let s1 := s.passTo s.clock.minuteDue
  { s1 with clock := s1.clock.advance }

/-- TIME_SET (R186). -/
def State.timeSet (s : State) (minute : BitVec 16) : Verdict :=
  if 1439 < minute.toNat then .refused .range
  else .accepted { s with clock := { s.clock with minuteOfDay := some minute.toNat } }
    (.time minute.toNat s.clock.siteMinute)

/-! ## The day (R187, R188) -/

/-- OPEN_DAY (R187). -/
def State.openDay (s : State) : Verdict :=
  if s.clock.day ≠ .closed then .refused .state
  else match s.clock.minuteOfDay with
    | none => .refused .clockUnset
    | some m =>
      .accepted { s with clock := { s.clock with day := .opened, siteMinute := 0, minuteDue := s.now + 60000 } }
        (.opened m)

/-- DAY_CLOSE (R188). -/
def State.dayClose (s : State) : Verdict :=
  if s.clock.day ≠ .opened then .refused .state
  else .accepted s.beginClosing (.closing s.visit.length s.clock.siteMinute)

/-! ## The close walk (R189, R190) -/

/-- The state with the walk due or waiting. -/
def State.setWalk (s : State) (w : Walk) : State := { s with clock := { s.clock with walk := w } }

/-- The state with the cursor and the count of CLOSE records. -/
def State.walkPast (s : State) (slot : Nat) : State :=
  { s with clock := { s.clock with cursor := slot + 1, closes := s.clock.closes + 1 } }

/-- The walk meets a band (R189). -/
def State.closeBand (s : State) (slot : Nat) (b : Band) : State :=
  match s.write? (.close (s.tallyOf b)) with
  | some s1 => (s1.remove slot).walkPast slot
  | none => s.setWalk .waiting

/-- The final step (R190): DAY_CLOSED and CLOSED, or the walk waits. -/
def State.finishWalk (s : State) : State :=
  match s.write? (.dayClosed s.clock.closes) with
  | some s1 => { s1 with clock := { s1.clock with day := .closed, cursor := 0, walk := .idle } }
  | none => s.setWalk .waiting

/-- The walk has a step due. -/
def State.walkDue (s : State) : Bool := s.clock.walk == .due

/-- A walk step that is due (R189); with no band left it is the final step. -/
def State.walkStep (s : State) : State :=
  if s.walkDue then
    match Table.firstFrom s.clock.cursor s.visit with
    | some (slot, b) => s.closeBand slot b
    | none => s.finishWalk
  else s

/-- The final step, due with no band at or above the cursor (R190); with one there, the step due is not the final
one. -/
def State.finalStep (s : State) : State :=
  if s.walkDue = true ∧ Table.firstFrom s.clock.cursor s.visit = none then s.finishWalk else s

/-! ## Frames that have been sent (R145, R179) -/

/-- The oldest record leaves the list. -/
def State.dropRecord (s : State) : State := { s with queue := { s.queue with records := s.queue.records.drop 1 } }

/-- A waiting walk becomes due (R189). -/
def State.wakeWalk (s : State) : State := if s.clock.walk = .waiting then s.setWalk .due else s

/-- The neighbours of a record that has left (R114, R145): the deferred cabins, then the walk. -/
def State.recordLeft (s : State) : State := (s.deferredCabins.foldl State.callStep s).wakeWalk

/-- A record frame has been sent in full (R145); with none in the transmitter nothing happens. -/
def State.recordSent (s : State) : State :=
  match s.trunk.arbiter with
  | .sendingRecord => s.freeTransmitter.dropRecord.recordLeft
  | _ => s

/-- The oldest reply leaves the list. -/
def State.dropReply (s : State) : State := { s with trunk := { s.trunk with replies := s.trunk.replies.drop 1 } }

/-- A segment of the reply being sent is its last. -/
def lastSegment (r : Reply) (n : Nat) : Bool := r.bodies.length ≤ n + 1

/-- The last frame of a reply has been sent (R179). -/
def State.replySent (s : State) : State :=
  match s.trunk.arbiter, s.trunk.replies with
  | .sendingReply n, r :: _ => if lastSegment r n then s.freeTransmitter.dropReply else s
  | _, _ => s

/-- A segment that is not the last has been sent (R179): the next follows. -/
def State.segmentSent (s : State) : State :=
  match s.trunk.arbiter, s.trunk.replies with
  | .sendingReply n, r :: _ => if lastSegment r n then s else s.beginSegment r (n + 1)
  | _, _ => s

/-! ## STATUS_QUERY (R193) -/

/-- Counts of the heads of a spur: IDENTIFYING, ONLINE, SILENT, MISMATCHED. -/
def Spur.headCounts (p : Spur) : List Nat :=
  [HeadState.identifying, .online, .silent, .mismatched].map (fun st => p.heads.countP (fun e => e.2.state == st))

/-- The state of the whole part. -/
def State.wholeStatus (s : State) : StatusReport where
  station := s.trunk.station
  day := s.clock.day
  minuteOfDay := s.clock.minuteOfDay
  siteMinute := s.clock.siteMinute
  cursor := s.clock.cursor
  waiting := s.clock.walk == .waiting
  bands := s.visit.length
  evacuation := s.clock.evacuation
  levels := s.lines.toList.map (fun l => if isInput l.function then some l.taken else none)
  paused := s.queue.paused
  records := s.queue.records.length
  reserved := s.queue.reserved
  attention := s.attention
  heads := s.spurs.toList.map Spur.headCounts

/-! ## Cold reset (R20, R71, R98, R123, R141, R147, R161, R172, R185, R191) -/

/-- The station read from the straps (R172): a strap value of 15 is taken as station 14. -/
def stationOf (straps : BitVec 4) : Fin 16 := if straps = 15 then 14 else ⟨straps.toNat, by omega⟩

/-- A cold reset: every field at its reset value, with the station read from the straps, the pins at the levels the
outside holds, and the model's queue, clock and event count kept (log 21). -/
def State.coldReset (s : State) (straps : BitVec 4) : State :=
  { State.reset with
      pending := s.pending
      eventNo := s.eventNo
      now := s.now
      trunk := TrunkPort.reset (stationOf straps)
      clock := SiteClock.reset s.now
      lines := s.lines.map (fun l => (Line.reset l.high).watch s.now) }

end Sys2Proof.Machine
end

