-- ==== Sys2Proof/Machine/SpurPort.lean ====
section
/-! DEFINITION. A spur port (09): the choice of the next head, the poll, the end of an exchange, misses, and the
judging of a reply. -/
namespace Sys2Proof.Machine

/-! ## The poll round (R163 to R165) -/

/-- The entry of a head in a spur's table. -/
def Spur.head? (p : Spur) (a : Fin 32) : Option Head := Table.get? a.val p.heads

/-- A head is enrolled and IDENTIFYING or ONLINE. -/
def Spur.activeAt (p : Spur) (a : Fin 32) : Bool := (p.head? a).any Head.active

/-- A round that opens with the fast list as it stands (R163). -/
def Spur.freshRound (p : Spur) : Round := ⟨p.fastList, p.fastList, 2, []⟩

/-- The fast slots (R163): the first address left whose head is active, the others being passed over. -/
def Spur.fastTurn (p : Spur) (r : Round) : Option (Fin 32 × Spur) :=
  match r.fastLeft.dropWhile (fun a => !p.activeAt a) with
  | a :: rest => some (a, { p with round := some { r with fastLeft := rest, polled := a :: r.polled } })
  | [] => none

/-- The due heads not yet polled in a round, with their pending-since moments, in ascending address. A head enrolled while
the round runs is among them, and `Spur.fastTurn` and `Spur.sharedTurn` may likewise give it a turn of that round: "A head
that becomes due during a round may be promoted in that same round" (R164), where R168 speaks of its turns "in the rounds
that follow" (DESIGN CHOICE, log 36). -/
def Spur.candidates (p : Spur) (r : Round) : List (Nat × Fin 32) :=
  (List.finRange 32).filterMap (fun a =>
    match p.head? a with
    | some h => if h.due && !r.polled.contains a then h.pendingSince.map (fun t => (t, a)) else none
    | none => none)

/-- The first of the candidates with the earliest moment (R164). -/
def earliest : List (Nat × Fin 32) → Option (Nat × Fin 32)
  | [] => none
  | e :: rest =>
    match earliest rest with
    | some f => if f.1 < e.1 then some f else some e
    | none => some e

/-- A promoted turn (R164); if no head is due, the turns left are passed over. -/
def Spur.promotedTurn (p : Spur) (r : Round) : Option (Fin 32 × Spur) :=
  if r.promotedLeft = 0 then none
  else match earliest (p.candidates r) with
    | some (_, a) =>
      some (a, { p with round := some { r with fastLeft := [], promotedLeft := r.promotedLeft - 1
                                               polled := a :: r.polled } })
    | none => none

/-- The addresses above the cursor, counting upward and wrapping, the cursor itself last (R165). -/
def afterCursor (cursor : Fin 32) : List (Fin 32) := (List.finRange 32).map (fun i => cursor + 1 + i)

/-- The shared turn (R165): it closes the round, and the cursor takes the address polled. -/
def Spur.sharedTurn (p : Spur) (r : Round) : Option (Fin 32 × Spur) :=
  match (afterCursor p.cursor).find?
      (fun a => (p.head? a).isSome && !(r.fast.contains a && p.activeAt a)) with
  | some a => some (a, { p with cursor := a, round := none })
  | none => none

/-- The next turn of a round that is taken. -/
def Spur.nextIn (p : Spur) (r : Round) : Option (Fin 32 × Spur) :=
  ((p.fastTurn r).or (p.promotedTurn r)).or (p.sharedTurn r)

/-- The head polled next, in the round in progress or else in a fresh one; none where no head is enrolled. -/
def Spur.choose (p : Spur) : Option (Fin 32 × Spur) :=
  match p.round with
  | some r => (p.nextIn r).or (p.nextIn p.freshRound)
  | none => p.nextIn p.freshRound

/-- The next exchange begins (R167): the head is chosen, its oldest items leave its list, and the poll frame is placed
in the transmit FIFO. A spur with no enrolled head is idle (R165). -/
def State.beginPoll (s : State) (sp : Fin 4) : State :=
  let p := s.spur sp
  match p.choose with
  | none => s.putSpur sp { p with round := none, exchange := none }
  | some (a, p1) =>
    match p1.head? a with
    | none => s
    | some h =>
      (s.putSpur sp { p1 with exchange := some ⟨a, .sending, p1.rate, none, false, [], h.pendingSince⟩
                              txFifo := pollFrame a h.carried }).modHead sp a Head.afterPoll

/-! ## The end of an exchange (R156, R162) -/

/-- A fresh IDENT is placed for a head still IDENTIFYING, if none is there unsent (R162). A head whose third miss has just
made it SILENT is IDENTIFYING no more, and none is placed for it (DESIGN CHOICE, log 35). -/
def State.repeatIdent (s : State) (sp : Fin 4) (a : Fin 32) : State :=
  match s.head? sp a with
  | some h =>
    if h.state = .identifying ∧ h.items.contains .ident = false ∧ h.identOwed = false then s.place sp a .ident else s
  | none => s

/-- The exchange ends: IDENT is repeated where it must be, and the next exchange begins. -/
def State.conclude (s : State) (sp : Fin 4) : State :=
  let p := s.spur sp
  match p.exchange with
  | none => s
  | some e =>
    ((s.putSpur sp { p with exchange := none, txFifo := [], rxFifo := [] }).repeatIdent sp e.address).beginPoll sp

/-! ## Misses (R53, R106, R162) -/

/-- The door fields of a head's doors become UNKNOWN. -/
def State.unseeDoors (s : State) (sp : Fin 4) (a : Fin 32) (enrolment : Enrolment) : State :=
  match enrolment with
  | .lock _ => (List.finRange 8).foldl (fun s i => s.modLocker (lockerAt sp a i) (fun l => { l with door := .unknown })) s
  | .cabin n => s.modCabin n (fun c => { c with door := .unknown })
  | .kiosk _ => s
  | .exit => s

/-- A miss counts against a head (R162): the third in a row makes it SILENT, with HEAD_FAULT. -/
def State.miss (s : State) (sp : Fin 4) (a : Fin 32) : State :=
  match s.head? sp a with
  | none => s
  | some h =>
    if h.active = false then s
    else if h.misses + 1 < 3 then s.modHead sp a (fun h => { h with misses := h.misses + 1 })
    else ((s.modHead sp a (fun h => { h with state := .silent, misses := 3 })).alert .headFault (.head sp a)
      (.headState .silent)).unseeDoors sp a h.enrolment

/-- The exchange in progress, its reply awaited, ends in a miss; none counts if the head was removed during it. -/
def State.missExchange (s : State) (sp : Fin 4) : State :=
  match (s.spur sp).exchange with
  | none => s
  | some e =>
    if e.phase ≠ .awaiting then s
    else (if e.removed then s else s.miss sp e.address).conclude sp

/-- The last stop bit of a poll frame has left (R155, R156): the receiver is enabled and the reply timeout starts. -/
def State.pollSent (s : State) (sp : Fin 4) : State :=
  let p := s.spur sp
  match p.exchange with
  | none => s
  | some e =>
    if e.phase ≠ .sending then s
    else s.putSpur sp { p with txFifo := []
                               exchange := some { e with phase := .awaiting
                                                         timeoutAt := some (s.now + s.control.replyTimeout) } }

/-- The reply timeout expires (R156). -/
def State.expireReply (s : State) (sp : Fin 4) : State :=
  match (s.spur sp).exchange.bind Exchange.timeoutAt with
  | none => s
  | some t => (s.passTo t).missExchange sp

/-! ## A complete reply (R157, R158, R162) -/

/-- An item is malformed on a head of the given enrolment (R158). -/
def malformed (enrolment : Enrolment) : ReplyItem → Bool
  | .tap reader serial =>
    !validSerial serial || (match enrolment with
      | .lock _ => 7 < reader.toNat
      | .cabin _ => 1 < reader.toNat
      | .kiosk _ => reader.toNat != 0
      | .exit => reader.toNat != 0)
  | .door index _ | .bolt index _ _ =>
    (match enrolment with
      | .lock _ => 7 < index.toNat
      | .cabin _ => index.toNat != 0
      | .kiosk _ => true
      | .exit => true)
  | .status _ _ => false

/-- A good reply updates the entry of a head that is not MISMATCHED (R158, R162). With its more flag set the head stays due
with the pending-since moment it had when it was polled, if it had one (R164, log 8). -/
def Head.goodReply (h : Head) (more : Bool) (since : Option Nat) : Head :=
  let h1 := { h with misses := 0, more := more, pendingSince := if more then since.or h.pendingSince else h.pendingSince }
  match h.state with
  | .silent => { h1 with state := .identifying }.place .ident
  | .mismatched => h
  | _ => h1

/-- The items of a good reply are to be handed on one after another; with none left the exchange ends. -/
def State.holdItems (s : State) (sp : Fin 4) (items : List ReplyItem) : State :=
  let p := s.spur sp
  match p.exchange with
  | none => s
  | some e =>
    let s1 := s.putSpur sp { p with exchange := some { e with phase := .taking, timeoutAt := none, items := items } }
    if items.isEmpty then s1.conclude sp else s1

/-- A good reply is taken: discarded whole if the head was removed during the exchange, its items discarded if the head
is MISMATCHED (R158, R162). -/
def State.takeReply (s : State) (sp : Fin 4) (e : Exchange) (more : Bool) (items : List ReplyItem) : State :=
  match e.removed, s.head? sp e.address with
  | false, some h =>
    if h.state = .mismatched then s.conclude sp
    else (s.modHead sp e.address (·.goodReply more e.since)).holdItems sp
      (items.filter (fun it => !malformed h.enrolment it))
  | _, _ => s.conclude sp

/-- A complete reply is judged (R157); bytes while no reply is awaited are lost (R155). -/
def State.judgeReply (s : State) (sp : Fin 4) (bytes : List RxByte) : State :=
  match (s.spur sp).exchange with
  | none => s
  | some e =>
    if e.phase ≠ .awaiting then s
    else match readReply e.address bytes with
      | some (more, items) => s.takeReply sp e more items
      | none => s.missExchange sp

/-! ## Items handed on (R158, R159) -/

/-- The item is the next one of the reply being taken from that head. -/
def State.handsOn (s : State) (sp : Fin 4) (a : Fin 32) (it : ReplyItem) : Bool :=
  (s.spur sp).exchange.any (fun e => e.phase == .taking && e.address == a && e.items.head? == some it)

/-- The head was removed while the items of its good reply were being taken. R158 discards a reply that completes after
the removal; the items left of one that was complete before it are discarded likewise (DESIGN CHOICE, log 39). -/
def State.replyDead (s : State) (sp : Fin 4) : Bool := (s.spur sp).exchange.any Exchange.removed

/-- The next item of the reply has been taken; after the last the exchange ends. -/
def State.popItem (s : State) (sp : Fin 4) : State :=
  match (s.spur sp).exchange with
  | none => s
  | some e => s.holdItems sp (e.items.drop 1)

/-- An item is taken (R158, R159): its effect, unless it belongs to a reply whose head has been removed since (DESIGN
CHOICE, log 39); then, if it was the next of the reply in progress, the one after it, or the end of the exchange
(log 7). -/
def State.takeItem (s : State) (sp : Fin 4) (a : Fin 32) (it : ReplyItem) (effect : State → State) : State :=
  if s.handsOn sp a it then (if s.replyDead sp then s else effect s).popItem sp else effect s

/-- The enrolment of a head whose TAP items are taken: ONLINE (R159). -/
def State.tapsFrom (s : State) (sp : Fin 4) (a : Fin 32) : Option Enrolment :=
  match s.head? sp a with
  | some h => if h.state = .online then some h.enrolment else none
  | none => none

/-- The enrolment of a head whose DOOR, BOLT and STATUS items are taken: IDENTIFYING or ONLINE (R159). -/
def State.reportsFrom (s : State) (sp : Fin 4) (a : Fin 32) : Option Enrolment :=
  match s.head? sp a with
  | some h => if h.active then some h.enrolment else none
  | none => none

/-! ## STATUS (R56, R85, R119, R160) -/

/-- What a VERIFY locker is resolved to, by its holder and the bolt reported (R85). -/
def resolved (held : Bool) (b : Bolt) : LockerState :=
  match held, b with
  | true, .thrown => .locked
  | true, .retracted => .released
  | true, .unknown => .jammed
  | false, .thrown => .inspect
  | false, .retracted => .vacant
  | false, .unknown => .jammed

/-- The resolution of a VERIFY locker, with its alert (R57, R85). -/
def State.resolve (s : State) (n : Fin 1024) (l : Locker) (b : Bolt) : State :=
  match resolved l.holder.isSome b with
  | .inspect => s.enterInspect n .found
  | .jammed => (s.modLocker n (fun l => { l with state := .jammed })).alert .jammed (.locker n) .found
  | st => s.modLocker n (fun l => { l with state := st })

/-- FORCED_DOOR for a locker just resolved to LOCKED or INSPECT beside an open door (R85). -/
def State.resolvedOpen (s : State) (n : Fin 1024) (door : Door) : State :=
  match (s.locker? n).map Locker.state, door with
  | some .locked, .opened => s.forcedDoor n .locked
  | some .inspect, .opened => s.forcedDoor n .inspect
  | _, _ => s

/-- One door of a matching STATUS of a LOCK head: the door report, the bolt field, the resolution of VERIFY. -/
def State.lockerStatus (s : State) (n : Fin 1024) (d : Door × Bolt) : State :=
  match s.locker? n with
  | none => s
  | some l =>
    let s1 := (s.lockerDoor n d.1).modLocker n (fun l => { l with bolt := d.2 })
    if l.state = .verify then (s1.resolve n l d.2).resolvedOpen n d.1 else s1

/-- A status wait is acted on and set to none (R119). -/
def State.actOnWait (s : State) (n : Fin 64) (bolt : Bolt) : State :=
  match s.cabin? n with
  | none => s
  | some c =>
    let s1 := s.putCabin n { c with statusWait := .nothing }
    match c.statusWait with
    | .nothing => s1
    | .reopen =>
      if s.clock.evacuation then s1.evacuateIdle n
      else if bolt = .thrown ∧ c.door = .shut then s1.freeUp n
      else s1.handReset n
    | .reset =>
      if c.action.isSome then s1
      else if (c.state = .vacating ∧ c.door ≠ .opened) ∨ c.state = .evacuated then s1.handReset n
      else s1

/-- A matching STATUS of a CABIN head: the door report, the lamp, the status wait (R119). -/
def State.cabinStatus (s : State) (n : Fin 64) (d : Door × Bolt) : State :=
  ((s.cabinDoor n d.1).placeLamp n).actOnWait n d.2

/-- The reports of a matching STATUS. -/
def State.takeStatus (s : State) (sp : Fin 4) (a : Fin 32) (enrolment : Enrolment) (doors : List (Door × Bolt)) :
    State :=
  match enrolment with
  | .lock _ =>
    (List.finRange 8).foldl (fun s i =>
      match doors[i.val]? with
      | some d => s.lockerStatus (lockerAt sp a i) d
      | none => s) s
  | .cabin n =>
    match doors with
    | d :: _ => s.cabinStatus n d
    | [] => s
  | .kiosk _ => s
  | .exit => s

/-- A STATUS item matched against the enrolment of an IDENTIFYING or ONLINE head (R160). -/
def State.matchStatus (s : State) (sp : Fin 4) (a : Fin 32) (type : HeadType) (doors : List (Door × Bolt)) : State :=
  match s.reportsFrom sp a with
  | none => s
  | some e =>
    if type = e.type ∧ doors.length = e.doorCount then
      (s.modHead sp a (fun h => { h with state := .online })).takeStatus sp a e doors
    else (s.modHead sp a (fun h => { h with state := .mismatched })).alert .headFault (.head sp a)
      (.headState .mismatched)

end Sys2Proof.Machine
end

