-- ==== Sys2Proof/Machine/Heads.lean ====
section
/-! DEFINITION. HEAD_ENROL, HEAD_REMOVE, POLL_PLAN and RESTART (09 R168 to R171, 03 R50, R51, 04 R84, 06 R119). -/
namespace Sys2Proof.Machine

/-! ## Enrolling (R168) -/

/-- A locker as HEAD_ENROL creates it (R50). -/
def Locker.fresh : Locker := ⟨.verify, 0, none, .unknown, .unknown, none, none⟩

/-- A cabin entry as HEAD_ENROL creates it (R99; fields R99 names no value for: log 10). -/
def Cabin.fresh (spur : Fin 4) (address : Fin 32) : Cabin where
  spur := spur
  address := address
  cls := 0
  state := .disabled
  band := none
  door := .unknown
  phase := .outside
  entered := false
  remaining := 0
  warningAt := none
  expiryAt := none
  extensions := 0
  overtime := 0
  overtimeSince := none
  callDeadline := none
  entryDeadline := none
  deferred := false
  ticket := none
  statusWait := .reopen
  latched := CabinParams.blank
  slot := false
  lamp := .off
  action := none

/-- A head as HEAD_ENROL makes it (R168), before its IDENT is placed. -/
def Head.fresh (enrolment : Enrolment) : Head := ⟨.identifying, enrolment, 0, false, none, false, []⟩

/-- The lockers of a LOCK head, or the cabin entry of a CABIN head, are created (R50, R99). -/
def State.createDoors (s : State) (sp : Fin 4) (a : Fin 32) (enrolment : Enrolment) : State :=
  match enrolment with
  | .lock count =>
    (List.finRange 8).foldl (fun s i => if i.val < count then s.putLocker (lockerAt sp a i) Locker.fresh else s) s
  | .cabin n => s.putCabin n (Cabin.fresh sp a)
  | .kiosk _ => s
  | .exit => s

/-- A spur with no exchange in progress begins to poll (R165). -/
def State.wakeSpur (s : State) (sp : Fin 4) : State :=
  if (s.spur sp).exchange.isNone then s.beginPoll sp else s

/-- A head is made at an UNENROLLED address (R168). -/
def State.makeHead (s : State) (sp : Fin 4) (a : Fin 32) (enrolment : Enrolment) : State :=
  ((s.putHead sp a (Head.fresh enrolment)).place sp a .ident).createDoors sp a enrolment

/-- The lockers of a LOCK head, as they stand. -/
def State.lockersOf (s : State) (sp : Fin 4) (a : Fin 32) : List Locker :=
  (List.finRange 8).filterMap (fun i => s.locker? (lockerAt sp a i))

/-- The refusals 3 to 5 of HEAD_REMOVE (R51, R169). -/
def State.removalRefusal (s : State) (sp : Fin 4) (a : Fin 32) (enrolment : Enrolment) : Option RefusalCode :=
  match enrolment with
  | .lock _ =>
    if (s.lockersOf sp a).any (fun l => l.holder.isSome || l.action.isSome) then some .inUse else none
  | .cabin n =>
    match s.cabin? n with
    | none => none
    | some c =>
      if c.state ≠ .free ∧ c.state ≠ .disabled then some .inUse
      else if c.state = .disabled ∧ c.action.isSome = true then some .busy
      else none
  | .kiosk _ => none
  | .exit => none

/-- The lockers of a removed LOCK head become ABSENT; a CABIN head's entry is deleted (R51, R99). -/
def State.deleteDoors (s : State) (sp : Fin 4) (a : Fin 32) (enrolment : Enrolment) : State :=
  match enrolment with
  | .lock _ => (List.finRange 8).foldl (fun s i => s.dropLocker (lockerAt sp a i)) s
  | .cabin n => s.dropCabin n
  | .kiosk _ => s
  | .exit => s

/-- An exchange with a head that is removed is marked: its reply will be discarded (R158, R169). -/
def State.markRemoved (s : State) (sp : Fin 4) (a : Fin 32) : State :=
  let p := s.spur sp
  match p.exchange with
  | some e => if e.address = a then s.putSpur sp { p with exchange := some { e with removed := true } } else s
  | none => s

/-- An accepted removal (R169). -/
def State.removeHead (s : State) (sp : Fin 4) (a : Fin 32) (enrolment : Enrolment) : State :=
  ((s.dropHead sp a).markRemoved sp a).deleteDoors sp a enrolment

/-- Another enrolled CABIN head, on any spur, has the cabin number (R168). -/
def State.cabinTaken (s : State) (sp : Fin 4) (a : Fin 32) (n : Fin 64) : Bool :=
  (List.finRange 4).any (fun q => (s.spur q).heads.any (fun e =>
    e.2.enrolment == .cabin n && !(q == sp && e.1 == a.val)))

/-- Check 3 of HEAD_ENROL. -/
def State.enrolClash (s : State) (sp : Fin 4) (a : Fin 32) (enrolment : Enrolment) : Bool :=
  match enrolment with
  | .cabin n => s.cabinTaken sp a n
  | _ => false

/-- HEAD_ENROL of a named head with an enrolment in range (R168). -/
def State.enrolAt (s : State) (sp : Fin 4) (a : Fin 32) (enrolment : Enrolment) : Verdict :=
  match s.head? sp a with
  | none =>
    if s.enrolClash sp a enrolment then .refused .inUse
    else .accepted ((s.makeHead sp a enrolment).wakeSpur sp) (.headState .identifying)
  | some h =>
    if h.state ≠ .mismatched then .refused .inUse
    else if s.enrolClash sp a enrolment then .refused .inUse
    else if h.enrolment = enrolment then
      .accepted (((s.modHead sp a (fun h => { h with state := .identifying, misses := 0 })).place sp a .ident).wakeSpur
        sp) (.headState .identifying)
    else match s.removalRefusal sp a h.enrolment with
      | some c => .refused c
      | none =>
        .accepted (((s.removeHead sp a h.enrolment).makeHead sp a enrolment).wakeSpur sp) (.headState .identifying)

/-- HEAD_ENROL (R168). -/
def State.headEnrol (s : State) (spur address type parameter : Byte) : Verdict :=
  match below 4 spur.toNat, below 32 address.toNat,
      (headTypeOf type.toNat).bind (fun t => enrolmentOf t parameter.toNat) with
  | some sp, some a, some e => s.enrolAt sp a e
  | _, _, _ => .refused .range

/-- HEAD_REMOVE (R169). -/
def State.headRemove (s : State) (spur address : Byte) : Verdict :=
  match below 4 spur.toNat, below 32 address.toNat with
  | some sp, some a =>
    match s.head? sp a with
    | none => .refused .notFound
    | some h =>
      match s.removalRefusal sp a h.enrolment with
      | some c => .refused c
      | none => .accepted (s.removeHead sp a h.enrolment) .nothing
  | _, _ => .refused .range

/-! ## POLL_PLAN (R170) -/

/-- The addresses of a fast list in range, if every one is. -/
def addressesOf : List Byte → Option (List (Fin 32))
  | [] => some []
  | b :: rest =>
    match below 32 b.toNat, addressesOf rest with
    | some a, some l => some (a :: l)
    | _, _ => none

/-- No address stands twice. -/
def distinct : List (Fin 32) → Bool
  | [] => true
  | a :: rest => !rest.contains a && distinct rest

/-- A door on the spur has an action in flight. -/
def State.spurMoving (s : State) (sp : Fin 4) : Bool :=
  s.lockerNumbers.any (fun n => lockerSpur n == sp && (s.action? (.locker n)).isSome)
    || s.cabinNumbers.any (fun n => (s.cabin? n).any (fun c => c.spur == sp && c.action.isSome))

/-- The spur is too busy for a change of bit rate (R170, check 3). -/
def State.spurBusy (s : State) (sp : Fin 4) : Bool :=
  (s.spur sp).heads.any (fun e => !e.2.items.isEmpty || e.2.identOwed) || s.spurMoving sp

/-- POLL_PLAN (R170). -/
def State.pollPlan (s : State) (spur rate : Byte) (fast : List Byte) : Verdict :=
  match below 4 spur.toNat, rateOf rate.toNat with
  | some sp, some r =>
    match addressesOf fast with
    | none => .refused .range
    | some l =>
      if 4 < l.length ∨ distinct l = false then .refused .range
      else if r ≠ (s.spur sp).rate ∧ s.spurBusy sp = true then .refused .busy
      else .accepted (s.putSpur sp { s.spur sp with rate := r, fastList := l }) (.plan r l)
  | _, _ => .refused .range

/-! ## RESTART (R84, R119, R171) -/

/-- The lockers of a spur with an action in flight, ascending. -/
def State.movingLockers (s : State) (sp : Fin 4) : List (Fin 1024) :=
  s.lockerNumbers.filter (fun n => lockerSpur n == sp && (s.action? (.locker n)).isSome)

/-- The cabins of a spur with an action in flight, ascending. -/
def State.movingCabins (s : State) (sp : Fin 4) : List (Fin 64) :=
  s.cabinNumbers.filter (fun n => (s.cabin? n).any (fun c => c.spur == sp && c.action.isSome))

/-- The action at a locker of a restarted spur is abandoned (R84). -/
def State.abandonAt (s : State) (n : Fin 1024) : State :=
  match s.action? (.locker n) with
  | some a => s.abandonLocker n a
  | none => s

/-- The action at a cabin of a restarted spur is abandoned, and the cabin's restart rule applied (R119). -/
def State.abandonCabin (s : State) (n : Fin 64) : State :=
  match s.cabin? n with
  | none => s
  | some c =>
    let s1 := s.putCabin n { c with action := none }
    match c.state with
    | .admitting =>
      ((s1.convert (.abandoned (.cabin n) c.band none .admission false)).clearCabinLink c.band).modCabin n
        (fun c => { c with state := .disabled, band := none, ticket := none, slot := false, statusWait := .reopen })
    | .vacating => s1.modCabin n (fun c => { c with statusWait := .reset })
    | .evacuated => s1.modCabin n (fun c => { c with statusWait := if s.clock.evacuation then .nothing else .reset })
    | .disabled => s1.modCabin n (fun c => { c with statusWait := .reopen })
    | .free | .called | .occupied | .overtime => s1

/-- A head as a RESTART leaves it (R171): IDENTIFYING, its list holding one IDENT, pending since this event. -/
def Head.restarted (eventNo : Nat) (h : Head) : Head :=
  { h with state := .identifying, misses := 0, more := false, pendingSince := some eventNo, identOwed := false
           items := [.ident] }

/-- A spur port as a RESTART leaves it (R171), before the next round begins. -/
def Spur.restarted (eventNo : Nat) (p : Spur) : Spur :=
  { p with round := none, exchange := none, txFifo := [], rxFifo := []
           heads := p.heads.map (fun e => (e.1, e.2.restarted eventNo)) }

/-- One spur is restarted (R171). -/
def State.restartSpur (s : State) (sp : Fin 4) : State :=
  let s1 := (s.movingLockers sp).foldl State.abandonAt s
  let s2 := (s.movingCabins sp).foldl State.abandonCabin s1
  (s2.putSpur sp ((s2.spur sp).restarted s2.eventNo)).beginPoll sp

/-- RESTART (R171): the spurs of the mask, ascending. -/
def State.restart (s : State) (mask : BitVec 4) : Verdict :=
  let named := (List.finRange 4).filter (fun i => mask.getLsbD i.val)
  let heads := (named.map (fun sp => (s.spur sp).heads.length)).sum
  let actions := (named.map (fun sp => (s.movingLockers sp).length + (s.movingCabins sp).length)).sum
  .accepted (named.foldl State.restartSpur s) (.restarted heads actions)

end Sys2Proof.Machine
end

