-- ==== Sys2Proof/Machine/Loads.lean ====
section
/-! DEFINITION. The loads of tables and settings (03 R63, 06 R101, 07 R124 to R129). -/
namespace Sys2Proof.Machine

/-- CLASS_LOAD (R8, R128). -/
def State.classLoad (s : State) (cls : Byte) (d : ClassDesc) : Verdict :=
  match below 16 cls.toNat with
  | some k => .accepted { s with classes := s.classes.set k.val d } (.classDesc d)
  | none => .refused .range

/-- TARIFF_LOAD (R124). -/
def State.tariffLoad (s : State) (set cls : Byte) (t : Tariff) : Verdict :=
  match below 4 set.toNat, below 16 cls.toNat with
  | some q, some k =>
    .accepted { s with tariffs := s.tariffs.set q.val ((s.tariffs[q]).set k.val t) } (.tariff t)
  | _, _ => .refused .range

/-- A period in range (R126). -/
def periodOf (p : BitVec 16 × Byte) : Option Period :=
  if p.1.toNat ≤ 1439 then (below 4 p.2.toNat).map (fun k => ⟨p.1.toNat, k⟩) else none

/-- The periods in range, if every one is. -/
def periodsOf : List (BitVec 16 × Byte) → Option (List Period)
  | [] => some []
  | p :: rest =>
    match periodOf p, periodsOf rest with
    | some q, some l => some (q :: l)
    | _, _ => none

/-- The starts rise strictly. -/
def ascending : List Period → Bool
  | p :: q :: rest => decide (p.start < q.start) && ascending (q :: rest)
  | _ => true

/-- SCHEDULE_LOAD (R126). -/
def State.scheduleLoad (s : State) (periods : List (BitVec 16 × Byte)) : Verdict :=
  match periodsOf periods with
  | some l =>
    if 1 ≤ l.length ∧ l.length ≤ 8 ∧ ascending l = true then
      .accepted { s with schedule := l } (.schedule l.length (s.clock.minuteOfDay.map (setInForce l)))
    else .refused .range
  | none => .refused .range

/-- Some action in flight has an attempt number above the new retries plus 1 (R73). -/
def State.attemptAbove (s : State) (retries : Nat) : Bool :=
  s.lockers.any (fun e => e.2.action.any (fun a => retries + 1 < a.attempt))
    || s.cabins.any (fun e => e.2.action.any (fun a => retries + 1 < a.attempt))

/-- CONTROL_LOAD (R129). -/
def State.controlLoad (s : State) (c : Control) : Verdict :=
  if s.attemptAbove c.retries then .refused .busy else .accepted { s with control := c } (.control c)

/-- ZONE_LOAD (R63): zone 255 writes all sixteen. -/
def State.zoneLoad (s : State) (zone : Byte) (z : Zone) : Verdict :=
  if zone = 255 then .accepted { s with zones := Vector.replicate 16 z } (.zone z)
  else match below 16 zone.toNat with
    | some k => .accepted { s with zones := s.zones.set k.val z } (.zone z)
    | none => .refused .range

/-- CABIN_CLASS_LOAD (R101). -/
def State.cabinClassLoad (s : State) (cls : Byte) (p : CabinParams) : Verdict :=
  match below 4 cls.toNat with
  | some k => .accepted { s with cabinClasses := s.cabinClasses.set k.val p } (.cabinParams p)
  | none => .refused .range

end Sys2Proof.Machine
end

