-- ==== Sys2Proof/Machine/LockerCommands.lean ====
section
/-! DEFINITION. LOCKER_SET and LOCKER_QUERY (03 R64 to R70). -/
namespace Sys2Proof.Machine

/-! ## LOCKER_SET (R64 to R68) -/

/-- The existing lockers from `first` to `last`, ascending. -/
def State.lockersIn (s : State) (first last : Nat) : List (Fin 1024) :=
  s.lockerNumbers.filter (fun n => decide (first ≤ n.val) && decide (n.val ≤ last))

/-- The status of the head of a locker is requested (R66). -/
def State.askStatus (s : State) (n : Fin 1024) : State := s.place (lockerSpur n) (lockerAddress n) .ident

/-- A locker meets a test. -/
def State.lockerIs (s : State) (p : Locker → Bool) (n : Fin 1024) : Bool := (s.locker? n).any p

/-- SERVICE_OUT applies to a locker (R65). -/
def Locker.servesOut (l : Locker) : Bool :=
  l.state == .vacant || l.state == .inspect || l.state == .jammed || l.state == .verify

/-- RECHECK applies to a locker (R67). -/
def Locker.rechecks (l : Locker) : Bool :=
  (l.state == .vacant || l.state == .inspect || l.state == .jammed) && l.action.isNone

/-- SERVICE_OUT over lockers that exist (R65). -/
def State.serviceOut (s : State) (range : List (Fin 1024)) : Verdict :=
  if range.any (s.lockerIs (fun l => l.holder.isSome)) then .refused .inUse
  else if range.any (s.lockerIs (fun l => l.action.isSome)) then .refused .busy
  else
    let hit := range.filter (s.lockerIs Locker.servesOut)
    .accepted (hit.foldl (fun s n => s.modLocker n (fun l => { l with state := .outOfService })) s)
      (.changed hit.length)

/-- SERVICE_IN over lockers that exist (R66). -/
def State.serviceIn (s : State) (range : List (Fin 1024)) : Verdict :=
  if range.any (s.lockerIs (fun l => l.state == .outOfService && l.action.isSome)) then .refused .busy
  else
    let hit := range.filter (s.lockerIs (fun l => l.state == .outOfService))
    .accepted
      (hit.foldl State.askStatus
        (hit.foldl (fun s n => s.modLocker n (fun l => { l with state := .verify, holder := none })) s))
      (.changed hit.length)

/-- RECHECK over lockers that exist (R67). -/
def State.recheck (s : State) (range : List (Fin 1024)) : Verdict :=
  let hit := range.filter (s.lockerIs Locker.rechecks)
  let s1 := hit.foldl (fun s n => s.modLocker n (fun l => { l with state := .verify })) s
  .accepted ((range.filter (s1.lockerIs (fun l => l.state == .verify))).foldl State.askStatus s1)
    (.changed hit.length)

/-- ZONE z over lockers that exist (R68): the reply counts those whose zone it changed. -/
def State.moveZone (s : State) (range : List (Fin 1024)) (z : Fin 16) : Verdict :=
  let hit := range.filter (s.lockerIs (fun l => l.zone != z))
  .accepted (range.foldl (fun s n => s.modLocker n (fun l => { l with zone := z })) s) (.changed hit.length)

/-- LOCKER_SET (R64): the range, the action's code, the lockers, then the action. -/
def State.lockerSet (s : State) (first last : BitVec 16) (action zone : Byte) : Verdict :=
  if 1023 < first.toNat ∨ 1023 < last.toNat ∨ last.toNat < first.toNat then .refused .range
  else if action = 0 ∨ 4 < action.toNat then .refused .range
  else match below 16 zone.toNat with
    | none => .refused .range
    | some z =>
      let range := s.lockersIn first.toNat last.toNat
      if range.isEmpty then .refused .notFound
      else if action = 1 then s.serviceOut range
      else if action = 2 then s.serviceIn range
      else if action = 3 then s.recheck range
      else s.moveZone range z

/-! ## LOCKER_QUERY (R69, R70) -/

/-- The report of a locker. -/
def Locker.report (l : Locker) (now : Nat) : LockerReport where
  state := l.state
  zone := l.zone
  holder := l.holder
  door := l.door
  bolt := l.bolt
  secondsLeft := if l.state = .reserved then l.reserveDeadline.map (secondsLeft now) else none
  action := l.action.map (fun a => (a.direction, a.purpose, a.attempt, a.orphaned))

/-- LOCKER_QUERY of a range (R69). -/
def State.lockerQuery (s : State) (first last : BitVec 16) : Verdict :=
  match below 1024 first.toNat, below 1024 last.toNat with
  | some f, some l =>
    if l < f ∨ 3 < l.val - f.val then .refused .range
    else
      let entries := (List.range (l.val - f.val + 1)).map (fun i => Table.get? (f.val + i) s.lockers)
      if entries.all Option.isNone then .refused .notFound
      else .accepted s (.lockers (entries.map (fun e => e.map (fun l => l.report s.now))))
  | _, _ => .refused .range

/-- The eight states of an existing locker, in the order of R49. -/
def LockerState.all : List LockerState :=
  [.verify, .vacant, .reserved, .locked, .released, .inspect, .jammed, .outOfService]

/-- LOCKER_QUERY of a zone (R70). -/
def State.lockerQueryZone (s : State) (zone : Byte) : Verdict :=
  match below 16 zone.toNat with
  | some z =>
    let named := (s.lockers.map Prod.snd).filter (fun l => l.zone == z)
    .accepted s (.zoneReport ⟨s.zones[z], s.rotors[z],
      LockerState.all.map (fun st => named.countP (fun l => l.state == st)), named.countP (fun l => l.action.isSome)⟩)
  | none => .refused .range

end Sys2Proof.Machine
end

