-- ==== Sys2Proof/Machine/Notices.lean ====
section
/-! DEFINITION. The commands of the Alert Latches, the Watch List and the Record Queue (08 R146, R149 to R154). -/
namespace Sys2Proof.Machine

/-! ## Alerts (R149 to R151) -/

/-- A latch emptied; its sequence number stays (R147). -/
def Latch.emptied (l : Latch) : Latch := { l with notice := none }

/-- ALERT_FETCH (R149): the latch the attention code names is read and emptied. -/
def State.alertFetch (s : State) : Verdict :=
  match s.topAlert with
  | none => .accepted s (.alert none)
  | some c => .accepted (s.putLatch c (s.latch c).emptied) (.alert (some (c, s.latch c)))

/-- The alert class of a number 1 to 8. -/
def alertClassOf (n : Nat) : Option AlertClass := AlertClass.all.find? (fun c => c.number == n)

/-- ALERT_PEEK (R150). -/
def State.alertPeek (s : State) (cls : Byte) : Verdict :=
  match alertClassOf cls.toNat with
  | some c => .accepted s (.alert (some (c, s.latch c)))
  | none => .refused .range

/-- ALERT_CLEAR (R151): bit i - 1 of the mask stands for class i. -/
def State.alertClear (s : State) (mask : BitVec 8) : Verdict :=
  let s1 := { s with alerts := s.alerts.mapFinIdx (fun i l _ => if mask.getLsbD i then l.emptied else l) }
  .accepted s1 (.attention s1.attention)

/-! ## Watches (R153, R154) -/

/-- The target of a WATCH_SET by its type code; the refusal of one out of range or of no known type. -/
def watchTargetOf (type : Byte) (target : BitVec 32) : Except RefusalCode WatchTarget :=
  if type = 0 then if validSerial target then .ok (.band target) else .error .range
  else if type = 1 then
    match below 1024 (target.extractLsb' 16 16).toNat, below 1024 (target.extractLsb' 0 16).toNat with
    | some f, some l => if l < f then .error .range else .ok (.range f l)
    | _, _ => .error .range
  else .error .format

/-- The mode of a WATCH_SET by its code. -/
def watchModeOf (mode : Byte) : Except RefusalCode WatchMode :=
  if mode = 0 then .ok .note else if mode = 1 then .ok .hold else .error .format

/-- WATCH_SET (R153). -/
def State.watchSet (s : State) (entry type mode : Byte) (target : BitVec 32) : Verdict :=
  match below 8 entry.toNat with
  | none => .refused .range
  | some i =>
    match watchTargetOf type target with
    | .error c => .refused c
    | .ok t =>
      match watchModeOf mode with
      | .error c => .refused c
      | .ok m => .accepted { s with watches := s.watches.set i.val (some ⟨t, m, true⟩) } (.watch s.watches[i])

/-- WATCH_CLEAR (R154). -/
def State.watchClear (s : State) (entry : Byte) : Verdict :=
  match below 8 entry.toNat with
  | none => .refused .range
  | some i => .accepted { s with watches := s.watches.set i.val none } (.watch s.watches[i])

/-! ## The paused flag (R146) -/

/-- PAUSE or RESUME. -/
def State.setPaused (s : State) (on : Bool) : Verdict :=
  .accepted { s with queue := { s.queue with paused := on } } (.records on s.queue.records.length s.queue.reserved)

end Sys2Proof.Machine
end

