-- ==== Sys2Proof/Machine/Owners.lean ====
section
/-! DEFINITION. Each downstream command handed to the block that owns it (R175), the clamped fields taken as stored
(R177). -/
namespace Sys2Proof.Machine

/-- The six lines of a LINES_LOAD, in order. -/
def sixLines (a b c d e f : LineFunction × Bool) : Vector (LineFunction × Bool) 6 := #v[a, b, c, d, e, f]

/-- LINES_LOAD with its reply (R191). -/
def State.linesLoad (s : State) (new : Vector (LineFunction × Bool) 6) : Verdict :=
  .accepted (s.loadLines new) (.lines (s.loadLines new).lines.toList)

/-- The owner's handling of a command (R175, R176). -/
def owner (c : Command) (s : State) : Verdict :=
  match c with
  | .bandIssue serial cls group credit => s.bandIssue serial cls group credit
  | .bandCredit serial amount => s.bandCredit serial amount
  | .bandBar serial on => s.bandBar serial on
  | .bandVoid serial => s.bandVoid serial
  | .bandReplace old new => s.bandReplace old new
  | .bandQuery serial => s.bandQuery serial
  | .classLoad cls hold features allowance grace mask =>
    s.classLoad cls (ClassDesc.load hold features allowance grace mask)
  | .tariffLoad set cls step price cap => s.tariffLoad set cls (Tariff.load step price cap)
  | .scheduleLoad periods => s.scheduleLoad periods
  | .controlLoad hold strikes retries actuation reply =>
    s.controlLoad (Control.load hold strikes retries actuation reply)
  | .zoneLoad zone intake fee mask mode window relock =>
    s.zoneLoad zone (Zone.load intake fee mask mode window relock)
  | .lockerSet first last action zone => s.lockerSet first last action zone
  | .lockerQuery first last => s.lockerQuery first last
  | .lockerQueryZone zone => s.lockerQueryZone zone
  | .cabinClassLoad cls allowance extension most window warning blink =>
    s.cabinClassLoad cls (CabinParams.load allowance extension most window warning blink)
  | .cabinSet cabin action cls => s.cabinSet cabin action cls
  | .cabinQuery cabin => s.cabinQuery cabin
  | .queueQuery cls => s.queueQuery cls
  | .headEnrol spur address type parameter => s.headEnrol spur address type parameter
  | .headRemove spur address => s.headRemove spur address
  | .pollPlan spur rate fast => s.pollPlan spur rate fast
  | .restart mask => s.restart mask
  | .watchSet entry type mode target => s.watchSet entry type mode target
  | .watchClear entry => s.watchClear entry
  | .alertFetch => s.alertFetch
  | .alertPeek cls => s.alertPeek cls
  | .alertClear mask => s.alertClear mask
  | .pause => s.setPaused true
  | .resume => s.setPaused false
  | .timeSet minute => s.timeSet minute
  | .openDay => s.openDay
  | .dayClose => s.dayClose
  | .linesLoad a b c d e f => s.linesLoad (sixLines a b c d e f)
  | .statusQuery => .accepted s (.status s.wholeStatus)

/-- A taken frame of a kind, as one event (R174 to R176). -/
def frameEvent (kind : Byte) (f : Frame) (s : State) : Host.Outcome State Fault Refusal :=
  event (State.takeFrame owner kind f) s

end Sys2Proof.Machine
end

