-- ==== Sys2Proof/Machine/Events.lean ====
section
/-! DEFINITION. The commands that are no frame and no spur item: reset, the clock, the receive assembly's endings, the
transmitter, the close walk, the deadlines and the lines. -/
namespace Sys2Proof.Machine

/-- COLD_RESET (R20, R172). -/
def execColdReset (straps : BitVec 4) (s : State) : Host.Outcome State Fault Refusal :=
  event (State.coldReset · straps) s

/-- MINUTE_EVENT (R185). -/
def execMinuteEvent (s : State) : Host.Outcome State Fault Refusal := event State.minute s

/-- DROPPED_FRAME (R174): a completed frame with the CRC it came with is judged. -/
def execDroppedFrame (kind : Byte) (f : Frame) (crc : BitVec 16) (s : State) : Host.Outcome State Fault Refusal :=
  event (State.judgeFrame owner (kind, f, crc)) s

/-- Bytes arriving on the trunk one after another (R173). -/
def State.takeBytes (s : State) (bytes : List TrunkByte) : State := bytes.foldl (State.takeByte owner) s

/-- TRUNK_INTER_BYTE_GAP (R173): the bytes, then a gap that abandons what is being assembled. -/
def execTrunkInterByteGap (bytes : List Byte) (s : State) : Host.Outcome State Fault Refusal :=
  event (fun s => (s.takeBytes (bytes.map (fun b => ⟨b, false⟩))).putAssembly .hunting) s

/-- TRUNK_FRAME_ABANDONED (R173): the bytes, the last of which abandons the frame. -/
def execTrunkFrameAbandoned (bytes : List TrunkByte) (s : State) : Host.Outcome State Fault Refusal :=
  event (fun s => s.takeBytes bytes) s

/-- UNKNOWN_FRAME_KIND (R175): a frame with the given kind code. -/
def execUnknownFrameKind (kind : Byte) (f : Frame) (s : State) : Host.Outcome State Fault Refusal :=
  event (State.takeFrame owner kind f) s

/-- REPLY_SENT (R179). -/
def execReplySent (s : State) : Host.Outcome State Fault Refusal := event State.replySent s

/-- REPLY_SEGMENT_SENT (R179). -/
def execReplySegmentSent (s : State) : Host.Outcome State Fault Refusal := event State.segmentSent s

/-- RECORD_SENT (R145). -/
def execRecordSent (s : State) : Host.Outcome State Fault Refusal := event State.recordSent s

/-- CLOSE_WALK_STEP (R189). -/
def execCloseWalkStep (s : State) : Host.Outcome State Fault Refusal := event State.walkStep s

/-- CLOSE_WALK_FINAL_STEP (R190). -/
def execCloseWalkFinalStep (s : State) : Host.Outcome State Fault Refusal := event State.finalStep s

/-- ATTEMPT_DEADLINE (R77). -/
def execAttemptDeadline (door : DoorId) (s : State) : Host.Outcome State Fault Refusal :=
  event (State.expireAttempt · door) s

/-- RESERVE_DEADLINE (R95). -/
def execReserveDeadline (locker : Fin 1024) (s : State) : Host.Outcome State Fault Refusal :=
  event (State.lapseReservation · locker) s

/-- ENTRY_DEADLINE (R107). -/
def execEntryDeadline (cabin : Fin 64) (s : State) : Host.Outcome State Fault Refusal :=
  event (State.expireEntry · cabin) s

/-- WARNING_POINT (R110). -/
def execWarningPoint (cabin : Fin 64) (s : State) : Host.Outcome State Fault Refusal :=
  event (State.reachWarning · cabin) s

/-- OCCUPANCY_EXPIRY (R110). -/
def execOccupancyExpiry (cabin : Fin 64) (s : State) : Host.Outcome State Fault Refusal :=
  event (State.expireOccupancy · cabin) s

/-- CALL_DEADLINE (R115). -/
def execCallDeadline (cabin : Fin 64) (s : State) : Host.Outcome State Fault Refusal :=
  event (State.expireCall · cabin) s

/-- LINE_CHANGE (R192). -/
def execLineChange (line : Fin 6) (high : Bool) (s : State) : Host.Outcome State Fault Refusal :=
  event (State.drivePin · line high) s

/-- SETTLE_TIMER (R192). -/
def execSettleTimer (line : Fin 6) (s : State) : Host.Outcome State Fault Refusal :=
  event (State.settleLine · line) s

end Sys2Proof.Machine
end

