-- ==== Sys2Proof/Machine/SpurCommands.lean ====
section
/-! DEFINITION. The commands of the spurs: the exchange, and the items of a good reply, each taken by the enrolment of
its head (R159). An item that names a head of another type has no effect (log 17). -/
namespace Sys2Proof.Machine

/-! ## The exchange (R156, R157) -/

/-- POLL_FRAME_SENT (R156). -/
def execPollFrameSent (spur : Fin 4) (s : State) : Host.Outcome State Fault Refusal := event (State.pollSent · spur) s

/-- REPLY_TIMEOUT (R156). -/
def execReplyTimeout (spur : Fin 4) (s : State) : Host.Outcome State Fault Refusal := event (State.expireReply · spur) s

/-- REPLY_CHARACTER_GAP (R156): the bytes are discarded, and the exchange ends in a miss. -/
def execReplyCharacterGap (spur : Fin 4) (_bytes : List RxByte) (s : State) : Host.Outcome State Fault Refusal :=
  event (State.missExchange · spur) s

/-- REPLY_ABORTED (R156): the reply is a miss at its first byte or its length field. -/
def execReplyAborted (spur : Fin 4) (_bytes : List RxByte) (s : State) : Host.Outcome State Fault Refusal :=
  event (State.missExchange · spur) s

/-- SPUR_REPLY (R157). -/
def execSpurReply (spur : Fin 4) (bytes : List RxByte) (s : State) : Host.Outcome State Fault Refusal :=
  event (State.judgeReply · spur bytes) s

/-! ## TAP items (R21) -/

/-- A byte that numbers a reader or door. -/
def indexByte (i : Fin 8) : Byte := BitVec.ofNat 8 i.val

/-- A TAP item with a valid serial, taken from an ONLINE head of a type by its own effect (R158, R159). -/
def State.takeTap (s : State) (t : Tap) (effect : Enrolment → State → State) : State :=
  s.takeItem t.spur t.address (.tap (indexByte t.reader) t.serial) (fun s =>
    match s.tapsFrom t.spur t.address with
    | some e => if validSerial t.serial then effect e s else s
    | none => s)

/-- LOCKER_TAP (R32). -/
def execLockerTap (spur : Fin 4) (address : Fin 32) (door : Fin 8) (serial : Serial) (s : State) :
    Host.Outcome State Fault Refusal :=
  event (State.takeTap · ⟨spur, address, door, serial⟩ (fun e s =>
    match e with
    | .lock _ => s.tapLock ⟨spur, address, door, serial⟩
    | _ => s)) s

/-- KIOSK_TAP (R88). -/
def execKioskTap (spur : Fin 4) (address : Fin 32) (serial : Serial) (s : State) : Host.Outcome State Fault Refusal :=
  event (State.takeTap · ⟨spur, address, 0, serial⟩ (fun e s =>
    match e with
    | .kiosk z => s.tapKiosk ⟨spur, address, 0, serial⟩ z
    | _ => s)) s

/-- OUTSIDE_READER_TAP (R103): reader 0. -/
def execOutsideReaderTap (spur : Fin 4) (address : Fin 32) (serial : Serial) (s : State) :
    Host.Outcome State Fault Refusal :=
  event (State.takeTap · ⟨spur, address, 0, serial⟩ (fun e s =>
    match e with
    | .cabin n => s.tapOutside ⟨spur, address, 0, serial⟩ n
    | _ => s)) s

/-- INSIDE_READER_TAP (R112): reader 1. -/
def execInsideReaderTap (spur : Fin 4) (address : Fin 32) (serial : Serial) (s : State) :
    Host.Outcome State Fault Refusal :=
  event (State.takeTap · ⟨spur, address, 1, serial⟩ (fun e s =>
    match e with
    | .cabin n => s.tapInside ⟨spur, address, 1, serial⟩ n
    | _ => s)) s

/-- EXIT_TAP (R130). -/
def execExitTap (spur : Fin 4) (address : Fin 32) (serial : Serial) (s : State) : Host.Outcome State Fault Refusal :=
  event (State.takeTap · ⟨spur, address, 0, serial⟩ (fun e s =>
    match e with
    | .exit => s.tapExit ⟨spur, address, 0, serial⟩
    | _ => s)) s

/-! ## DOOR, BOLT and STATUS items (R52, R76, R106, R160) -/

/-- A report taken from an IDENTIFYING or ONLINE head by its own effect (R159). -/
def State.takeReport (s : State) (sp : Fin 4) (a : Fin 32) (it : ReplyItem) (effect : Enrolment → State → State) :
    State :=
  s.takeItem sp a it (fun s =>
    match s.reportsFrom sp a with
    | some e => effect e s
    | none => s)

/-- LOCKER_DOOR_REPORT (R52). -/
def execLockerDoorReport (spur : Fin 4) (address : Fin 32) (door : Fin 8) (state : Door) (s : State) :
    Host.Outcome State Fault Refusal :=
  event (State.takeReport · spur address (.door (indexByte door) state) (fun e s =>
    match e with
    | .lock _ => s.lockerDoor (lockerAt spur address door) state
    | _ => s)) s

/-- CABIN_DOOR_REPORT (R106). -/
def execCabinDoorReport (spur : Fin 4) (address : Fin 32) (state : Door) (s : State) :
    Host.Outcome State Fault Refusal :=
  event (State.takeReport · spur address (.door 0 state) (fun e s =>
    match e with
    | .cabin n => s.cabinDoor n state
    | _ => s)) s

/-- BOLT_RESULT (R76, R78): a cabin's bolt is door 0. -/
def execBoltResult (spur : Fin 4) (address : Fin 32) (door : Fin 8) (direction : Direction) (outcome : BoltOutcome)
    (s : State) : Host.Outcome State Fault Refusal :=
  event (State.takeReport · spur address (.bolt (indexByte door) direction outcome) (fun e s =>
    match e with
    | .lock _ => s.takeResult (.locker (lockerAt spur address door)) direction outcome
    | .cabin n => if door = 0 then s.takeResult (.cabin n) direction outcome else s
    | _ => s)) s

/-- STATUS (R160). -/
def execStatus (spur : Fin 4) (address : Fin 32) (type : HeadType) (doors : List (Door × Bolt)) (s : State) :
    Host.Outcome State Fault Refusal :=
  event (State.takeItem · spur address (.status type doors) (State.matchStatus · spur address type doors)) s

end Sys2Proof.Machine
end

