-- ==== Sys2Proof/Machine/TrunkCommands.lean ====
section
/-! DEFINITION. The commands of the trunk: one meaning per row, each a frame of the row's kind taken as one event. The
body's bytes decide what the frame says (log 3). -/
namespace Sys2Proof.Machine

/-- BAND_ISSUE (R3). -/
def execBandIssue (f : Frame) (s : State) : Host.Outcome State Fault Refusal :=
  frameEvent FrameKind.bandIssue.code f s

/-- BAND_CREDIT (R4). -/
def execBandCredit (f : Frame) (s : State) : Host.Outcome State Fault Refusal :=
  frameEvent FrameKind.bandCredit.code f s

/-- BAND_BAR_ON (R13). -/
def execBandBarOn (f : Frame) (s : State) : Host.Outcome State Fault Refusal :=
  frameEvent FrameKind.bandBar.code f s

/-- BAND_BAR_OFF (R14). -/
def execBandBarOff (f : Frame) (s : State) : Host.Outcome State Fault Refusal :=
  frameEvent FrameKind.bandBar.code f s

/-- BAND_VOID (R17). -/
def execBandVoid (f : Frame) (s : State) : Host.Outcome State Fault Refusal :=
  frameEvent FrameKind.bandVoid.code f s

/-- BAND_REPLACE (R18). -/
def execBandReplace (f : Frame) (s : State) : Host.Outcome State Fault Refusal :=
  frameEvent FrameKind.bandReplace.code f s

/-- BAND_QUERY (R19). -/
def execBandQuery (f : Frame) (s : State) : Host.Outcome State Fault Refusal :=
  frameEvent FrameKind.bandQuery.code f s

/-- CLASS_LOAD (R128). -/
def execClassLoad (f : Frame) (s : State) : Host.Outcome State Fault Refusal :=
  frameEvent FrameKind.classLoad.code f s

/-- TARIFF_LOAD (R124). -/
def execTariffLoad (f : Frame) (s : State) : Host.Outcome State Fault Refusal :=
  frameEvent FrameKind.tariffLoad.code f s

/-- SCHEDULE_LOAD (R126). -/
def execScheduleLoad (f : Frame) (s : State) : Host.Outcome State Fault Refusal :=
  frameEvent FrameKind.scheduleLoad.code f s

/-- CONTROL_LOAD (R129). -/
def execControlLoad (f : Frame) (s : State) : Host.Outcome State Fault Refusal :=
  frameEvent FrameKind.controlLoad.code f s

/-- ZONE_LOAD (R63). -/
def execZoneLoad (f : Frame) (s : State) : Host.Outcome State Fault Refusal :=
  frameEvent FrameKind.zoneLoad.code f s

/-- SERVICE_OUT (R65). -/
def execServiceOut (f : Frame) (s : State) : Host.Outcome State Fault Refusal :=
  frameEvent FrameKind.lockerSet.code f s

/-- SERVICE_IN (R66). -/
def execServiceIn (f : Frame) (s : State) : Host.Outcome State Fault Refusal :=
  frameEvent FrameKind.lockerSet.code f s

/-- RECHECK (R67). -/
def execRecheck (f : Frame) (s : State) : Host.Outcome State Fault Refusal :=
  frameEvent FrameKind.lockerSet.code f s

/-- LOCKER_SET_ZONE (R68). -/
def execLockerSetZone (f : Frame) (s : State) : Host.Outcome State Fault Refusal :=
  frameEvent FrameKind.lockerSet.code f s

/-- LOCKER_QUERY (R69). -/
def execLockerQuery (f : Frame) (s : State) : Host.Outcome State Fault Refusal :=
  frameEvent FrameKind.lockerQuery.code f s

/-- LOCKER_QUERY_ZONE (R70). -/
def execLockerQueryZone (f : Frame) (s : State) : Host.Outcome State Fault Refusal :=
  frameEvent FrameKind.lockerQuery.code f s

/-- CABIN_CLASS_LOAD (R101). -/
def execCabinClassLoad (f : Frame) (s : State) : Host.Outcome State Fault Refusal :=
  frameEvent FrameKind.cabinClassLoad.code f s

/-- CABIN_SET_CLOSE (R120). -/
def execCabinSetClose (f : Frame) (s : State) : Host.Outcome State Fault Refusal :=
  frameEvent FrameKind.cabinSet.code f s

/-- CABIN_SET_REOPEN (R120). -/
def execCabinSetReopen (f : Frame) (s : State) : Host.Outcome State Fault Refusal :=
  frameEvent FrameKind.cabinSet.code f s

/-- CABIN_SET_CLASS (R120). -/
def execCabinSetClass (f : Frame) (s : State) : Host.Outcome State Fault Refusal :=
  frameEvent FrameKind.cabinSet.code f s

/-- CABIN_QUERY (R121). -/
def execCabinQuery (f : Frame) (s : State) : Host.Outcome State Fault Refusal :=
  frameEvent FrameKind.cabinQuery.code f s

/-- QUEUE_QUERY (R122). -/
def execQueueQuery (f : Frame) (s : State) : Host.Outcome State Fault Refusal :=
  frameEvent FrameKind.queueQuery.code f s

/-- HEAD_ENROL (R168). -/
def execHeadEnrol (f : Frame) (s : State) : Host.Outcome State Fault Refusal :=
  frameEvent FrameKind.headEnrol.code f s

/-- HEAD_REMOVE (R169). -/
def execHeadRemove (f : Frame) (s : State) : Host.Outcome State Fault Refusal :=
  frameEvent FrameKind.headRemove.code f s

/-- POLL_PLAN (R170). -/
def execPollPlan (f : Frame) (s : State) : Host.Outcome State Fault Refusal :=
  frameEvent FrameKind.pollPlan.code f s

/-- RESTART (R171). -/
def execRestart (f : Frame) (s : State) : Host.Outcome State Fault Refusal :=
  frameEvent FrameKind.restart.code f s

/-- WATCH_SET (R153). -/
def execWatchSet (f : Frame) (s : State) : Host.Outcome State Fault Refusal :=
  frameEvent FrameKind.watchSet.code f s

/-- WATCH_CLEAR (R154). -/
def execWatchClear (f : Frame) (s : State) : Host.Outcome State Fault Refusal :=
  frameEvent FrameKind.watchClear.code f s

/-- ALERT_FETCH (R149). -/
def execAlertFetch (f : Frame) (s : State) : Host.Outcome State Fault Refusal :=
  frameEvent FrameKind.alertFetch.code f s

/-- ALERT_PEEK (R150). -/
def execAlertPeek (f : Frame) (s : State) : Host.Outcome State Fault Refusal :=
  frameEvent FrameKind.alertPeek.code f s

/-- ALERT_CLEAR (R151). -/
def execAlertClear (f : Frame) (s : State) : Host.Outcome State Fault Refusal :=
  frameEvent FrameKind.alertClear.code f s

/-- PAUSE (R146). -/
def execPause (f : Frame) (s : State) : Host.Outcome State Fault Refusal :=
  frameEvent FrameKind.pause.code f s

/-- RESUME (R146). -/
def execResume (f : Frame) (s : State) : Host.Outcome State Fault Refusal :=
  frameEvent FrameKind.resume.code f s

/-- TIME_SET (R186). -/
def execTimeSet (f : Frame) (s : State) : Host.Outcome State Fault Refusal :=
  frameEvent FrameKind.timeSet.code f s

/-- OPEN_DAY (R187). -/
def execOpenDay (f : Frame) (s : State) : Host.Outcome State Fault Refusal :=
  frameEvent FrameKind.openDay.code f s

/-- DAY_CLOSE (R188). -/
def execDayClose (f : Frame) (s : State) : Host.Outcome State Fault Refusal :=
  frameEvent FrameKind.dayClose.code f s

/-- LINES_LOAD (R191). -/
def execLinesLoad (f : Frame) (s : State) : Host.Outcome State Fault Refusal :=
  frameEvent FrameKind.linesLoad.code f s

/-- STATUS_QUERY (R193). -/
def execStatusQuery (f : Frame) (s : State) : Host.Outcome State Fault Refusal :=
  frameEvent FrameKind.statusQuery.code f s

end Sys2Proof.Machine
end

