-- ==== Sys2Proof/Machine/Dispatch.lean ====
section
/-! DEFINITION. One arm per command. -/
namespace Sys2Proof.Machine

def exec (i : Instr) (s : State) : Host.Outcome State Fault Refusal :=
  match i with
  | .coldReset straps => Sys2Proof.Machine.execColdReset straps s
  | .minuteEvent => Sys2Proof.Machine.execMinuteEvent s
  | .droppedFrame kind f crc => Sys2Proof.Machine.execDroppedFrame kind f crc s
  | .trunkInterByteGap bytes => Sys2Proof.Machine.execTrunkInterByteGap bytes s
  | .unknownFrameKind kind f => Sys2Proof.Machine.execUnknownFrameKind kind f s
  | .bandIssue f => Sys2Proof.Machine.execBandIssue f s
  | .bandCredit f => Sys2Proof.Machine.execBandCredit f s
  | .bandBarOn f => Sys2Proof.Machine.execBandBarOn f s
  | .bandBarOff f => Sys2Proof.Machine.execBandBarOff f s
  | .bandVoid f => Sys2Proof.Machine.execBandVoid f s
  | .bandReplace f => Sys2Proof.Machine.execBandReplace f s
  | .bandQuery f => Sys2Proof.Machine.execBandQuery f s
  | .classLoad f => Sys2Proof.Machine.execClassLoad f s
  | .tariffLoad f => Sys2Proof.Machine.execTariffLoad f s
  | .scheduleLoad f => Sys2Proof.Machine.execScheduleLoad f s
  | .controlLoad f => Sys2Proof.Machine.execControlLoad f s
  | .zoneLoad f => Sys2Proof.Machine.execZoneLoad f s
  | .serviceOut f => Sys2Proof.Machine.execServiceOut f s
  | .serviceIn f => Sys2Proof.Machine.execServiceIn f s
  | .recheck f => Sys2Proof.Machine.execRecheck f s
  | .lockerSetZone f => Sys2Proof.Machine.execLockerSetZone f s
  | .lockerQuery f => Sys2Proof.Machine.execLockerQuery f s
  | .lockerQueryZone f => Sys2Proof.Machine.execLockerQueryZone f s
  | .cabinClassLoad f => Sys2Proof.Machine.execCabinClassLoad f s
  | .cabinSetClose f => Sys2Proof.Machine.execCabinSetClose f s
  | .cabinSetReopen f => Sys2Proof.Machine.execCabinSetReopen f s
  | .cabinSetClass f => Sys2Proof.Machine.execCabinSetClass f s
  | .cabinQuery f => Sys2Proof.Machine.execCabinQuery f s
  | .queueQuery f => Sys2Proof.Machine.execQueueQuery f s
  | .headEnrol f => Sys2Proof.Machine.execHeadEnrol f s
  | .headRemove f => Sys2Proof.Machine.execHeadRemove f s
  | .pollPlan f => Sys2Proof.Machine.execPollPlan f s
  | .restart f => Sys2Proof.Machine.execRestart f s
  | .watchSet f => Sys2Proof.Machine.execWatchSet f s
  | .watchClear f => Sys2Proof.Machine.execWatchClear f s
  | .alertFetch f => Sys2Proof.Machine.execAlertFetch f s
  | .alertPeek f => Sys2Proof.Machine.execAlertPeek f s
  | .alertClear f => Sys2Proof.Machine.execAlertClear f s
  | .pause f => Sys2Proof.Machine.execPause f s
  | .resume f => Sys2Proof.Machine.execResume f s
  | .timeSet f => Sys2Proof.Machine.execTimeSet f s
  | .openDay f => Sys2Proof.Machine.execOpenDay f s
  | .dayClose f => Sys2Proof.Machine.execDayClose f s
  | .linesLoad f => Sys2Proof.Machine.execLinesLoad f s
  | .statusQuery f => Sys2Proof.Machine.execStatusQuery f s
  | .replySent => Sys2Proof.Machine.execReplySent s
  | .recordSent => Sys2Proof.Machine.execRecordSent s
  | .closeWalkStep => Sys2Proof.Machine.execCloseWalkStep s
  | .closeWalkFinalStep => Sys2Proof.Machine.execCloseWalkFinalStep s
  | .pollFrameSent spur => Sys2Proof.Machine.execPollFrameSent spur s
  | .replyTimeout spur => Sys2Proof.Machine.execReplyTimeout spur s
  | .replyCharacterGap spur bytes => Sys2Proof.Machine.execReplyCharacterGap spur bytes s
  | .replyAborted spur bytes => Sys2Proof.Machine.execReplyAborted spur bytes s
  | .spurReply spur bytes => Sys2Proof.Machine.execSpurReply spur bytes s
  | .lockerTap spur address door serial => Sys2Proof.Machine.execLockerTap spur address door serial s
  | .kioskTap spur address serial => Sys2Proof.Machine.execKioskTap spur address serial s
  | .outsideReaderTap spur address serial => Sys2Proof.Machine.execOutsideReaderTap spur address serial s
  | .insideReaderTap spur address serial => Sys2Proof.Machine.execInsideReaderTap spur address serial s
  | .exitTap spur address serial => Sys2Proof.Machine.execExitTap spur address serial s
  | .lockerDoorReport spur address door state => Sys2Proof.Machine.execLockerDoorReport spur address door state s
  | .cabinDoorReport spur address state => Sys2Proof.Machine.execCabinDoorReport spur address state s
  | .boltResult spur address door direction outcome => Sys2Proof.Machine.execBoltResult spur address door direction outcome s
  | .attemptDeadline door => Sys2Proof.Machine.execAttemptDeadline door s
  | .status spur address type doors => Sys2Proof.Machine.execStatus spur address type doors s
  | .reserveDeadline locker => Sys2Proof.Machine.execReserveDeadline locker s
  | .entryDeadline cabin => Sys2Proof.Machine.execEntryDeadline cabin s
  | .warningPoint cabin => Sys2Proof.Machine.execWarningPoint cabin s
  | .occupancyExpiry cabin => Sys2Proof.Machine.execOccupancyExpiry cabin s
  | .callDeadline cabin => Sys2Proof.Machine.execCallDeadline cabin s
  | .lineChange line high => Sys2Proof.Machine.execLineChange line high s
  | .settleTimer line => Sys2Proof.Machine.execSettleTimer line s
  | .trunkFrameAbandoned bytes => Sys2Proof.Machine.execTrunkFrameAbandoned bytes s
  | .replySegmentSent => Sys2Proof.Machine.execReplySegmentSent s

end Sys2Proof.Machine
end

