-- ==== Sys2Proof/Safety.lean ====
section
/-! DEFINITION. What every step keeps: the bounds and the agreements the rules state between events. -/
namespace Sys2Proof.Machine

/-- The sum never exceeds 128 (R141). -/
def QueueBounded (s : State) : Prop := s.queue.sum ≤ Config.recordPlaces

/-- The tables are in their canonical form: keys strictly rising. -/
def TablesCanonical (s : State) : Prop :=
  Table.wf s.visit = true ∧ Table.wf s.lockers = true ∧ Table.wf s.cabins = true
    ∧ ∀ sp : Fin 4, Table.wf (s.spur sp).heads = true

/-- An item is a SHOW at a reader. -/
def CmdItem.showsAt (r : Fin 8) : CmdItem → Bool
  | .showAt q _ => q == r
  | _ => false

/-- An item is an ACTUATE of a door. -/
def CmdItem.actuates (d : Fin 8) : CmdItem → Bool
  | .actuate e _ => e == d
  | _ => false

/-- A command list keeps the bounds of R166: at most 16 items, one ACTUATE per door, one SHOW per reader. -/
def listBounded (items : List CmdItem) : Prop :=
  items.length ≤ Config.commandItems ∧ ∀ i : Fin 8, items.countP (CmdItem.showsAt i) ≤ 1
    ∧ items.countP (CmdItem.actuates i) ≤ 1

/-- Every head's command list keeps its bounds (R166). -/
def ListsBounded (s : State) : Prop := ∀ sp : Fin 4, ∀ e ∈ (s.spur sp).heads, listBounded e.2.items

/-- At most four replies wait (R179). -/
def RepliesBounded (s : State) : Prop := s.trunk.replies.length ≤ Config.replyPlaces

/-- The station is 0 to 14 (R172). -/
def StationLegal (s : State) : Prop := s.trunk.station.val ≤ 14

/-- The transmitter is idle only with nothing to send (R180). -/
def TransmitterServed (s : State) : Prop :=
  s.trunk.arbiter = .idle → s.trunk.replies = [] ∧ (s.queue.paused = true ∨ s.queue.records = [])

/-- The walk is due or waiting exactly in CLOSING (R188 to R190), and the minute of day is set unless the day is CLOSED
(R187, R127). -/
def DayConsistent (s : State) : Prop :=
  (s.clock.walk = .idle ↔ s.clock.day ≠ .closing) ∧ (s.clock.day ≠ .closed → s.clock.minuteOfDay.isSome = true)

/-- No two bands carry one serial. -/
def serialsDistinct (visit : List (Nat × Band)) : Prop :=
  ∀ e ∈ visit, ∀ f ∈ visit, e.2.serial = f.2.serial → e.1 = f.1

/-- The Visit Table (R1, R189): canonical, its slots 0 to 4095, its serials valid and distinct, empty in CLOSED, and
in CLOSING with no band below the cursor. -/
def VisitConsistent (s : State) : Prop :=
  Table.wf s.visit = true ∧ (∀ e ∈ s.visit, e.1 < Config.bandSlots ∧ validSerial e.2.serial = true)
    ∧ serialsDistinct s.visit ∧ (s.clock.day = .closed → s.visit = [])
    ∧ (s.clock.day = .closing → ∀ e ∈ s.visit, s.clock.cursor ≤ e.1) ∧ DayConsistent s

end Sys2Proof.Machine
end

