-- ==== Sys2Proof/WellFormed.lean ====
section
/-! DEFINITION. When a command is one the part can receive under its row's name. The machine's step is total and does
not read this check; it says which operands belong to which row (log 3, log 5, log 7). -/
namespace Sys2Proof

/-- A station byte of 0 to 15 and a body of at most 60 bytes (R173, R182). -/
def Frame.wf (f : Frame) : Bool := f.station.toNat ≤ 15 && f.body.length ≤ 60

/-- Byte `i` of the body names none of the given codes: those of the other rows of the same frame kind. -/
def Frame.spares (f : Frame) (i : Nat) (codes : List Byte) : Bool :=
  match f.body[i]? with
  | some b => !codes.contains b
  | none => true

/-- A serial a TAP item may carry: neither 0 nor FFFFFFFFh (R158). -/
def goodSerial (serial : Serial) : Bool := serial != 0 && serial != 0xFFFFFFFF

/-- The bytes abandon a frame at their end: the last carries a framing error or is above 60 (R173). -/
def abandons (bytes : List TrunkByte) : Bool :=
  match bytes.getLast? with
  | some b => b.framing || 60 < b.value.toNat
  | none => false

/-- The bytes end a reply at once: the first is not C3h, or the length byte is above 44 (R156). -/
def aborts (bytes : List RxByte) : Bool :=
  match bytes.map RxByte.value with
  | [] => false
  | [b] => b != 0xC3
  | _ :: _ :: _ :: len :: _ => 44 < len.toNat
  | _ => false

/-- The row's operands are ones the part can receive under the row's name. -/
def Instr.wf : Instr → Bool
  | .coldReset _ => true
  | .minuteEvent => true
  | .droppedFrame _ f _ => f.wf
  | .trunkInterByteGap bytes => !bytes.isEmpty
  | .unknownFrameKind k f => f.wf && (FrameKind.ofCode k).isNone
  | .bandIssue f => f.wf
  | .bandCredit f => f.wf
  | .bandBarOn f => f.wf && f.spares 4 [0]
  | .bandBarOff f => f.wf && f.spares 4 [1]
  | .bandVoid f => f.wf
  | .bandReplace f => f.wf
  | .bandQuery f => f.wf
  | .classLoad f => f.wf
  | .tariffLoad f => f.wf
  | .scheduleLoad f => f.wf
  | .controlLoad f => f.wf
  | .zoneLoad f => f.wf
  | .serviceOut f => f.wf && f.spares 4 [2, 3, 4]
  | .serviceIn f => f.wf && f.spares 4 [1, 3, 4]
  | .recheck f => f.wf && f.spares 4 [1, 2, 4]
  | .lockerSetZone f => f.wf && f.spares 4 [1, 2, 3]
  | .lockerQuery f => f.wf && f.body.length != 1
  | .lockerQueryZone f => f.wf && f.body.length != 4
  | .cabinClassLoad f => f.wf
  | .cabinSetClose f => f.wf && f.spares 1 [2, 3]
  | .cabinSetReopen f => f.wf && f.spares 1 [1, 3]
  | .cabinSetClass f => f.wf && f.spares 1 [1, 2]
  | .cabinQuery f => f.wf
  | .queueQuery f => f.wf
  | .headEnrol f => f.wf
  | .headRemove f => f.wf
  | .pollPlan f => f.wf
  | .restart f => f.wf
  | .watchSet f => f.wf
  | .watchClear f => f.wf
  | .alertFetch f => f.wf
  | .alertPeek f => f.wf
  | .alertClear f => f.wf
  | .pause f => f.wf
  | .resume f => f.wf
  | .timeSet f => f.wf
  | .openDay f => f.wf
  | .dayClose f => f.wf
  | .linesLoad f => f.wf
  | .statusQuery f => f.wf
  | .replySent => true
  | .recordSent => true
  | .closeWalkStep => true
  | .closeWalkFinalStep => true
  | .pollFrameSent _ => true
  | .replyTimeout _ => true
  | .replyCharacterGap _ bytes => !bytes.isEmpty
  | .replyAborted _ bytes => aborts bytes
  | .spurReply _ bytes => !bytes.isEmpty
  | .lockerTap _ _ _ serial => goodSerial serial
  | .kioskTap _ _ serial => goodSerial serial
  | .outsideReaderTap _ _ serial => goodSerial serial
  | .insideReaderTap _ _ serial => goodSerial serial
  | .exitTap _ _ serial => goodSerial serial
  | .lockerDoorReport _ _ _ _ => true
  | .cabinDoorReport _ _ _ => true
  | .boltResult _ _ _ _ _ => true
  | .attemptDeadline _ => true
  | .status _ _ _ doors => doors.length ≤ 8
  | .reserveDeadline _ => true
  | .entryDeadline _ => true
  | .warningPoint _ => true
  | .occupancyExpiry _ => true
  | .callDeadline _ => true
  | .lineChange _ _ => true
  | .settleTimer _ => true
  | .trunkFrameAbandoned bytes => abandons bytes
  | .replySegmentSent => true

/-- The kind code and frame of a row that stands for a frame whose CRC is right (R182, log 4). -/
def Instr.framed? : Instr → Option (Byte × Frame)
  | .unknownFrameKind k f => some (k, f)
  | .bandIssue f => some (FrameKind.bandIssue.code, f)
  | .bandCredit f => some (FrameKind.bandCredit.code, f)
  | .bandBarOn f => some (FrameKind.bandBar.code, f)
  | .bandBarOff f => some (FrameKind.bandBar.code, f)
  | .bandVoid f => some (FrameKind.bandVoid.code, f)
  | .bandReplace f => some (FrameKind.bandReplace.code, f)
  | .bandQuery f => some (FrameKind.bandQuery.code, f)
  | .classLoad f => some (FrameKind.classLoad.code, f)
  | .tariffLoad f => some (FrameKind.tariffLoad.code, f)
  | .scheduleLoad f => some (FrameKind.scheduleLoad.code, f)
  | .controlLoad f => some (FrameKind.controlLoad.code, f)
  | .zoneLoad f => some (FrameKind.zoneLoad.code, f)
  | .serviceOut f => some (FrameKind.lockerSet.code, f)
  | .serviceIn f => some (FrameKind.lockerSet.code, f)
  | .recheck f => some (FrameKind.lockerSet.code, f)
  | .lockerSetZone f => some (FrameKind.lockerSet.code, f)
  | .lockerQuery f => some (FrameKind.lockerQuery.code, f)
  | .lockerQueryZone f => some (FrameKind.lockerQuery.code, f)
  | .cabinClassLoad f => some (FrameKind.cabinClassLoad.code, f)
  | .cabinSetClose f => some (FrameKind.cabinSet.code, f)
  | .cabinSetReopen f => some (FrameKind.cabinSet.code, f)
  | .cabinSetClass f => some (FrameKind.cabinSet.code, f)
  | .cabinQuery f => some (FrameKind.cabinQuery.code, f)
  | .queueQuery f => some (FrameKind.queueQuery.code, f)
  | .headEnrol f => some (FrameKind.headEnrol.code, f)
  | .headRemove f => some (FrameKind.headRemove.code, f)
  | .pollPlan f => some (FrameKind.pollPlan.code, f)
  | .restart f => some (FrameKind.restart.code, f)
  | .watchSet f => some (FrameKind.watchSet.code, f)
  | .watchClear f => some (FrameKind.watchClear.code, f)
  | .alertFetch f => some (FrameKind.alertFetch.code, f)
  | .alertPeek f => some (FrameKind.alertPeek.code, f)
  | .alertClear f => some (FrameKind.alertClear.code, f)
  | .pause f => some (FrameKind.pause.code, f)
  | .resume f => some (FrameKind.resume.code, f)
  | .timeSet f => some (FrameKind.timeSet.code, f)
  | .openDay f => some (FrameKind.openDay.code, f)
  | .dayClose f => some (FrameKind.dayClose.code, f)
  | .linesLoad f => some (FrameKind.linesLoad.code, f)
  | .statusQuery f => some (FrameKind.statusQuery.code, f)
  | _ => none

end Sys2Proof
end

