-- ==== Sys2Proof/Certificates/Slice0/Obligations.lean ====
section
/-! DEFINITION. The statements about the W316 for the provers. The helpers of `Sys2Proof.Claims` name the shapes the
statements share. -/
namespace Sys2Proof.Claims
open Sys2Proof.Machine

/-! ## Shapes -/

/-- The state with the event counted. -/
def counted (s : State) : State := { s with eventNo := s.eventNo + 1 }

/-- The state in which a taken frame acts: the event counted, the assembly hunting. -/
def framed (s : State) : State :=
  { s with eventNo := s.eventNo + 1, trunk := { s.trunk with assembly := ⟨.hunt, []⟩ } }

/-- The state with a reply at the tail of the reply list. -/
def replied (s : State) (kind : Byte) (r : ReplyResult) : State :=
  { s with trunk := { s.trunk with replies := s.trunk.replies ++ [⟨kind, r⟩] } }

/-- A frame to this station is taken: its station is legal and a reply has a place. -/
def Ready (s : State) : Prop := s.trunk.station.val ≤ 14 ∧ s.trunk.replies.length < 4

/-- A command sent to this station under a row answers a next state: `t`, with an ACCEPTED reply carrying `d`. -/
def Answers (row : Frame → Instr) (c : Command) (s t : State) (d : ReplyData) : Prop :=
  exec (row (s.frameFor c)) s = .next (replied t c.kind.code (.accepted d)).arbitrate

/-- A command sent to this station under a row answers a next state: nothing but a REFUSED reply. -/
def Refuses (row : Frame → Instr) (c : Command) (s : State) (code : RefusalCode) : Prop :=
  exec (row (s.frameFor c)) s = .next (replied (framed s) c.kind.code (.refused code)).arbitrate

/-- A present band's slot and record, in a canonical table. -/
def Present (s : State) (serial : Serial) (slot : Nat) (b : Band) : Prop :=
  Table.wf s.visit = true ∧ s.findBand serial = some (slot, b)

/-- A serial no band may carry (R1). -/
def badSerial (serial : Serial) : Prop := serial = 0 ∨ serial = 0xFFFFFFFF

/-- The state after an item: `t`, with the item taken off the reply it stood in, if it stood in one. -/
def handed (s t : State) (sp : Fin 4) (a : Fin 32) (it : ReplyItem) : State :=
  if s.handsOn sp a it = true then t.popItem sp else t

/-- The reply the items of a spur come from, if any, is not a discarded one: its head has not been removed since (log 39). -/
def alive (s : State) (sp : Fin 4) : Prop := s.replyDead sp = false

/-- A TAP item as it is taken. -/
def tapItem (t : Tap) : ReplyItem := .tap (BitVec.ofNat 8 t.reader.val) t.serial

/-- The row of a tap, by the enrolment of its head: readers 0 and 1 of a CABIN head have a row each. -/
def tapRow (t : Tap) : Enrolment → Instr
  | .lock _ => .lockerTap t.spur t.address t.reader t.serial
  | .kiosk _ => .kioskTap t.spur t.address t.serial
  | .cabin _ => if t.reader = 0 then .outsideReaderTap t.spur t.address t.serial
      else .insideReaderTap t.spur t.address t.serial
  | .exit => .exitTap t.spur t.address t.serial

/-- The locker of a tap at a LOCK head. -/
def tapLocker (t : Tap) : Enrolment → Option (Fin 1024)
  | .lock _ => some (lockerAt t.spur t.address t.reader)
  | _ => none

/-- A tap the resolver receives: a valid serial at a reader of an ONLINE head, whose locker or cabin exists. -/
def Arrives (s : State) (t : Tap) (e : Enrolment) : Prop :=
  alive s t.spur ∧ validSerial t.serial = true
    ∧ (∃ h, s.head? t.spur t.address = some h ∧ h.state = .online ∧ h.enrolment = e)
    ∧ match e with
      | .lock _ => (s.locker? (lockerAt t.spur t.address t.reader)).isSome = true
      | .cabin n => t.reader.val ≤ 1 ∧ (s.cabin? n).isSome = true
      | .kiosk _ => t.reader = 0
      | .exit => t.reader = 0

/-- The state in which a tap is decided: the event counted, every watch that matches fired. -/
def watched (s : State) (t : Tap) (e : Enrolment) (present : Bool) : State :=
  (counted s).fireWatches t.serial (tapLocker t e) present

/-- A tap passes the common front (R25 to R29) with the band found. -/
def Passes (s : State) (t : Tap) (e : Enrolment) (slot : Nat) (b : Band) : Prop :=
  Arrives s t e ∧ Present s t.serial slot b
    ∧ (s.clock.day = .opened ∨ s.clock.day = .closing ∧ (e = .exit ∨ (s.classOf b).staff = true))
    ∧ s.holdFires t.serial (tapLocker t e) true = false
    ∧ (b.state ≠ .barred ∨ e = .exit)
    ∧ (s.clock.evacuation = true → e.type = .lock ∨ e.type = .exit)

/-- The SHOW that answers a tap. -/
def shown (s : State) (t : Tap) (x : Signal) : State := s.place t.spur t.address (.showAt t.reader x)

/-- What a tap's row answers: `u`, once the item is taken off its reply. -/
def Resolves (s : State) (t : Tap) (e : Enrolment) (u : State) : Prop :=
  exec (tapRow t e) s = .next (handed (counted s) u t.spur t.address (tapItem t)).arbitrate

/-- An action record as a hand-over creates it (R74, R75). -/
def newAction (s : State) (d : Direction) (p : Purpose) (holder requester : Option Serial) (slot : Bool) : Action :=
  ⟨d, p, holder, requester, 1, s.now + s.control.actuation * 100, slot, false⟩

/-- The state with one more place reserved. -/
def reserved (s : State) : State := { s with queue := { s.queue with reserved := s.queue.reserved + 1 } }

/-- The state with a record written at the tail, stamped with the site minute. -/
def written (s : State) (b : RecordBody) : State :=
  { s with queue := { s.queue with records := s.queue.records ++ [⟨s.clock.siteMinute, b⟩] } }

/-- The state with a reservation turned into a record at the tail. -/
def converted (s : State) (b : RecordBody) : State :=
  { s with queue := { s.queue with records := s.queue.records ++ [⟨s.clock.siteMinute, b⟩]
                                   reserved := s.queue.reserved - 1 } }

/-- The state with a band record in a slot. -/
def withBand (s : State) (slot : Nat) (b : Band) : State := { s with visit := Table.put slot b s.visit }

/-- The state with a locker entry. -/
def withLocker (s : State) (n : Fin 1024) (l : Locker) : State := { s with lockers := Table.put n.val l s.lockers }

/-- The state with a cabin entry. -/
def withCabin (s : State) (n : Fin 64) (c : Cabin) : State := { s with cabins := Table.put n.val c s.cabins }

/-- A latch with a notice written into it (R147). -/
def noticed (s : State) (c : AlertClass) (subject : AlertSubject) (detail : AlertDetail) : State :=
  { s with alerts := s.alerts.set c.index.val
             ⟨some ⟨s.clock.siteMinute, subject, detail⟩, ((s.alerts[c.index]).sequence + 1) % 8⟩ }

/-- The row of a LOCKER_SET by its action code (R64). -/
def lockerRow (a : Byte) : Frame → Instr :=
  if a = 1 then .serviceOut else if a = 2 then .serviceIn else if a = 3 then .recheck else .lockerSetZone

/-- The row of a CABIN_SET by its action code (R120). -/
def cabinRow (a : Byte) : Frame → Instr :=
  if a = 1 then .cabinSetClose else if a = 2 then .cabinSetReopen else .cabinSetClass

/-- The type and parameter bytes of an enrolment (R168, R182). -/
def enrolCodes : Enrolment → Byte × Byte
  | .lock k => (0, BitVec.ofNat 8 k)
  | .cabin n => (1, BitVec.ofNat 8 n.val)
  | .kiosk z => (2, BitVec.ofNat 8 z.val)
  | .exit => (3, 0)

/-- The code of a bit rate (R182). -/
def rateCode : BitRate → Nat
  | .b9600 => 0 | .b19200 => 1 | .b38400 => 2 | .b57600 => 3

/-- The state with the doors of an enrolled head created: lockers in VERIFY, or a cabin DISABLED (R50, R99). -/
def withDoors (s : State) (sp : Fin 4) (a : Fin 32) : Enrolment → State
  | .lock k => { s with lockers := (List.range k).foldl (fun t i =>
      Table.put (sp.val * 256 + a.val * 8 + i) ⟨.verify, 0, none, .unknown, .unknown, none, none⟩ t) s.lockers }
  | .cabin n => withCabin s n (Cabin.fresh sp a)
  | .kiosk _ => s
  | .exit => s

/-- The state with the doors of a head gone (R51, R99). -/
def withoutDoors (s : State) (sp : Fin 4) (a : Fin 32) : Enrolment → State
  | .lock _ => { s with lockers := (List.range 8).foldl (fun t i => Table.drop (sp.val * 256 + a.val * 8 + i) t) s.lockers }
  | .cabin n => { s with cabins := Table.drop n.val s.cabins }
  | .kiosk _ => s
  | .exit => s

/-- A head cannot be removed: a locker of it is held or moving, its cabin is in use, or its cabin moves (R169). -/
def Held (s : State) (sp : Fin 4) (a : Fin 32) (e : Enrolment) (r : RefusalCode) : Prop :=
  match e with
  | .lock _ => r = .inUse ∧ ∃ (i : Fin 8) (l : Locker), s.locker? (lockerAt sp a i) = some l
      ∧ (l.holder ≠ none ∨ l.action ≠ none)
  | .cabin n => ∃ c, s.cabin? n = some c ∧ (r = .inUse ∧ c.state ≠ .free ∧ c.state ≠ .disabled
      ∨ r = .busy ∧ c.state = .disabled ∧ c.action ≠ none)
  | .kiosk _ => False
  | .exit => False

/-- The state with a spur's exchange. -/
def withExchange (s : State) (sp : Fin 4) (e : Exchange) : State :=
  { s with spurs := s.spurs.set sp.val { s.spurs[sp] with exchange := some e } }

/-- What a miss leaves (R162, R53, R106): a count, and at the third in a row a SILENT head, its alert, and its doors
UNKNOWN; a head neither IDENTIFYING nor ONLINE takes no miss. -/
def missed (s : State) (sp : Fin 4) (a : Fin 32) : State :=
  match s.head? sp a with
  | none => s
  | some h =>
    if h.state ≠ .identifying ∧ h.state ≠ .online then s
    else if h.misses < 2 then s.putHead sp a { h with misses := h.misses + 1 }
    else
      let u := noticed (s.putHead sp a { h with state := .silent, misses := 3 }) .headFault (.head sp a)
        (.headState .silent)
      match h.enrolment with
      | .lock _ => { u with lockers := u.lockers.map (fun e =>
          (e.1, if e.1 / 8 = sp.val * 32 + a.val then { e.2 with door := .unknown } else e.2)) }
      | .cabin n => { u with cabins := u.cabins.map (fun e =>
          (e.1, if e.1 = n.val then { e.2 with door := .unknown } else e.2)) }
      | .kiosk _ => u
      | .exit => u

/-- The reader of a tap is one its row names. -/
def ReaderFits (t : Tap) : Enrolment → Prop
  | .lock _ => True
  | .cabin _ => t.reader.val ≤ 1
  | .kiosk _ => t.reader = 0
  | .exit => t.reader = 0

/-- A watch entry fires on a tap (R27). -/
def Fires (s : State) (t : Tap) (e : Enrolment) (present : Bool) (i : Fin 8) (w : Watch) : Prop :=
  s.watches[i] = some w ∧ w.armed = true ∧ match w.target with
    | .band x => present = true ∧ x = t.serial
    | .range f l => ∃ n, tapLocker t e = some n ∧ f ≤ n ∧ n ≤ l

/-- A tap's row answers a SHOW and nothing else but the watches it fired. -/
def Shows (s : State) (t : Tap) (e : Enrolment) (x : Signal) : Prop := Resolves s t e (shown (watched s t e true) t x)

/-- A grant at a tap: strikes 0 and GREEN (R10, R23). -/
def given (s : State) (t : Tap) (slot : Nat) (b : Band) : State := shown (withBand s slot { b with strikes := 0 }) t .green

/-- A denial at a tap (R10 to R12): a strike and RED NOT_HOLDER; at the strike limit the band is barred. -/
def denied (s : State) (t : Tap) (slot : Nat) (b : Band) : State :=
  let n := min (b.strikes + 1) 7
  let u := withBand s slot { b with strikes := n }
  if s.control.strikeLimit ≠ 0 ∧ s.control.strikeLimit ≤ n
  then shown (noticed (u.bar slot) .bandBarred (.band b.serial) (.strikes n)) t (.red .notHolder 0)
  else shown u t (.red .notHolder 0)

/-- The band is a group mate of the locker's holder (R33). -/
def Mate (s : State) (b : Band) (l : Locker) : Prop :=
  b.group ≠ 0 ∧ (s.classes[b.cls]).share = true
    ∧ ∃ x k h, l.holder = some x ∧ s.findBand x = some (k, h) ∧ h.group = b.group

/-- A locker the search may choose (R91). -/
def Offered (s : State) (z : Fin 16) (n : Fin 1024) : Prop :=
  ∃ l, s.locker? n = some l ∧ l.zone = z ∧ l.state = .vacant ∧ l.action = none

/-- The locker the search chooses (R91): the lowest in PACK; in ROTATE the lowest above the rotor, else the lowest. -/
def Chosen (s : State) (z : Fin 16) (n : Fin 1024) : Prop :=
  Offered s z n ∧ match (s.zones[z]).mode with
    | .pack => ∀ m, Offered s z m → n ≤ m
    | .rotate => s.rotors[z] < n ∧ (∀ m, Offered s z m → s.rotors[z] < m → n ≤ m)
        ∨ (∀ m, Offered s z m → m ≤ s.rotors[z] ∧ n ≤ m)

/-- A FREE cabin of a class that is not deferred (R103). -/
def Callable (s : State) (k : Fin 4) (n : Fin 64) : Prop :=
  ∃ c, s.cabin? n = some c ∧ c.state = .free ∧ c.cls = k ∧ c.deferred = false

/-- Admission of a band at a cabin on a place already held (R104). -/
def admitted (s : State) (n : Fin 64) (c : Cabin) (slot : Nat) (b : Band) : State :=
  ((withBand (withCabin s n { c with
      state := .admitting, band := some b.serial, slot := true, callDeadline := none, deferred := false,
      ticket := if c.state = .called then c.ticket else none, latched := s.cabinClasses[c.cls] }) slot
    { b with cabinLink := some ⟨n, .occupant⟩, queueLink := none, strikes := 0 }).place c.spur c.address
      (.showAt 0 .green)).handOver (.cabin n) .retract .admission none none true

/-- A cabin whose countdown of some seconds starts (R110). -/
def counting (c : Cabin) (now secs : Nat) : Cabin :=
  { c with
      remaining := secs, expiryAt := some (now + secs * 1000),
      warningAt := if 0 < c.latched.warning ∧ c.latched.warning < secs
        then some (now + (secs - c.latched.warning) * 1000) else none }

/-- A cabin whose counts have stopped (R107, R108). -/
def halted (c : Cabin) (now : Nat) : Cabin :=
  { c with
      remaining := c.remainingAt now, overtime := c.overtimeAt now,
      warningAt := none, expiryAt := none, overtimeSince := none, entryDeadline := none }

/-- A band leaves at the exit (R135, R137). -/
def leaves (s : State) (t : Tap) (slot : Nat) : State := ((shown s t .green).place t.spur t.address .gate).remove slot

/-- A report the part takes: from an IDENTIFYING or ONLINE head, not of a discarded reply (R158, R159). -/
def Reports (s : State) (sp : Fin 4) (a : Fin 32) (e : Enrolment) : Prop :=
  alive s sp ∧ ∃ h, s.head? sp a = some h ∧ (h.state = .identifying ∨ h.state = .online) ∧ h.enrolment = e

/-- What a report's row answers: `u`, once the item is taken off its reply. -/
def Leads (i : Instr) (s u : State) (sp : Fin 4) (a : Fin 32) (it : ReplyItem) : Prop :=
  exec i s = .next (handed (counted s) u sp a it).arbitrate

/-- The cabin link of a cabin's band, if that band is present, cleared (R7). -/
def unlinked (s : State) : Option Serial → State
  | none => s
  | some x => match s.findBand x with
    | some (slot, b) => withBand s slot { b with cabinLink := none }
    | none => s

/-- The state with the moment passed to. -/
def timed (s : State) (m : Nat) : State := { counted s with now := max s.now m }

/-- The state with the bolt field of a locker's door; a cabin entry keeps none (R76, R78). -/
def bolted (s : State) (d : DoorId) (b : Bolt) : State :=
  match d with
  | .locker n => match s.locker? n with
    | some l => withLocker s n { l with bolt := b }
    | none => s
  | .cabin _ => s

/-- The head at an address of a spur is IDENTIFYING or ONLINE (R161). -/
def ActiveAt (p : Spur) (a : Fin 32) : Prop :=
  ∃ h, Table.get? a.val p.heads = some h ∧ (h.state = .identifying ∨ h.state = .online)

/-- A head is due for promotion since a moment (R164, R166). -/
def DueSince (p : Spur) (a : Fin 32) (m : Nat) : Prop :=
  ∃ h, Table.get? a.val p.heads = some h ∧ (h.state = .identifying ∨ h.state = .online)
    ∧ (h.items ≠ [] ∨ h.more = true ∨ h.identOwed = true) ∧ h.pendingSince = some m

/-- A head is the promoted one: due, not yet polled in the round, since the earliest moment; of equal moments the
lowest address (R164). -/
def PromotedNext (p : Spur) (r : Round) (a : Fin 32) : Prop :=
  0 < r.promotedLeft ∧ a ∉ r.polled
    ∧ ∃ m, DueSince p a m ∧ ∀ b k, DueSince p b k → b ∉ r.polled → m < k ∨ m = k ∧ a ≤ b

/-- A head qualifies for the shared poll: enrolled, and not both on the round's fast list and active (R165). -/
def Qualifies (p : Spur) (r : Round) (a : Fin 32) : Prop :=
  (Table.get? a.val p.heads).isSome = true ∧ ¬(a ∈ r.fast ∧ ActiveAt p a)

/-- The turn a round takes next, with the spur as the turn leaves it (R163 to R165): the first active address left of
the fast list; with none left the promoted head; with none the first address above the cursor that qualifies, counting
upward and wrapping, which closes the round. -/
def Turn (p : Spur) (r : Round) (a : Fin 32) (q : Spur) : Prop :=
  (∃ skipped rest, r.fastLeft = skipped ++ a :: rest ∧ ActiveAt p a ∧ (∀ x ∈ skipped, ¬ActiveAt p x)
    ∧ q = { p with round := some { r with fastLeft := rest, polled := a :: r.polled } })
  ∨ ((∀ x ∈ r.fastLeft, ¬ActiveAt p x) ∧ PromotedNext p r a
    ∧ q = { p with round := some { r with fastLeft := [], promotedLeft := r.promotedLeft - 1, polled := a :: r.polled } })
  ∨ ((∀ x ∈ r.fastLeft, ¬ActiveAt p x) ∧ (∀ b, ¬PromotedNext p r b) ∧ Qualifies p r a
    ∧ (∀ b, Qualifies p r b → a - p.cursor - 1 ≤ b - p.cursor - 1) ∧ q = { p with cursor := a, round := none })

/-- The head a spur polls next: by the next turn of the round in progress, or, where that has no turn left or there is
none, by the first turn of a round that opens with the fast list as it stands. -/
def PollsNext (p : Spur) (a : Fin 32) (q : Spur) : Prop :=
  (∃ r, p.round = some r ∧ Turn p r a q)
  ∨ ((∀ r, p.round = some r → ∀ b t, ¬Turn p r b t) ∧ Turn p ⟨p.fastList, p.fastList, 2, []⟩ a q)

/-- The state with a spur port. -/
def withSpur (s : State) (sp : Fin 4) (p : Spur) : State := { s with spurs := s.spurs.set sp.val p }

/-- The items a poll of a head carries (R161, R167). -/
def load (h : Head) : List CmdItem := if h.state = .identifying ∨ h.state = .online then h.items.take 4 else []

/-- The state after a good or a missed exchange with a head, before the next poll: the exchange over, and the IDENT of a
head still IDENTIFYING placed anew if none is there unsent (R162). A head that its third miss has just made SILENT gets
none (DESIGN CHOICE, log 35). -/
def exchanged (s : State) (sp : Fin 4) (a : Fin 32) : State :=
  let u := withSpur s sp { s.spurs[sp] with exchange := none, txFifo := [], rxFifo := [] }
  match s.head? sp a with
  | none => u
  | some h =>
    if h.state = .identifying ∧ .ident ∉ h.items ∧ h.identOwed = false then u.place sp a .ident else u

/-- A cabin as a RESTART of its spur leaves it, its action abandoned (R119). -/
def restartedCabin (evacuation : Bool) (c : Cabin) : Cabin :=
  match c.state with
  | .admitting => { c with
      action := none, state := .disabled, band := none, ticket := none, slot := false, statusWait := .reopen }
  | .vacating => { c with action := none, statusWait := .reset }
  | .evacuated => { c with action := none, statusWait := if evacuation then .nothing else .reset }
  | .disabled => { c with action := none, statusWait := .reopen }
  | _ => { c with action := none }

/-- The record evacuation makes of a cabin's place (R116). -/
def evacuationEntry (now : Nat) (n : Fin 64) (c : Cabin) : Option RecordBody :=
  match c.state with
  | .called => some (.callLapsed n c.band c.ticket)
  | .admitting => some (.cabinOut n c.band (c.overtimeAt now) c.extensions true true)
  | .occupied | .overtime | .vacating => some (.cabinOut n c.band (c.overtimeAt now) c.extensions true (!c.entered))
  | _ => none

/-- A cabin as evacuation leaves it, but for its lamp and its EVAC action (R116). -/
def evacuated (now : Nat) (c : Cabin) : Cabin :=
  { halted c now with
      state := .evacuated, band := none, ticket := none, slot := false, callDeadline := none, deferred := false,
      action := none }

/-- What a door report does at a locker (R52, R54, R55, R77). -/
def doorTaken (s : State) (n : Fin 1024) (l : Locker) (d : Door) : State :=
  let u := withLocker s n { l with door := d }
  if l.action ≠ none then
    if l.action.any (fun x => x.direction == .throw) = true ∧ d = .opened then u.failAttempt (.locker n) else u
  else if l.door = d then u
  else if (l.state = .locked ∨ l.state = .inspect) ∧ d = .opened
    then noticed u .forcedDoor (.locker n) (.lockerState l.state)
  else if l.state = .released ∧ d = .shut ∧ (s.zones[l.zone]).autoRelock = true ∧ s.queue.sum < 128
    then (reserved u).handOver (.locker n) .throw .relock l.holder none true
  else u

/-- The bytes an item of a reply is spelled with (R184). The upper four bits of a door byte are not read (log 16). -/
def SpellsItem (bytes : List Byte) : ReplyItem → Prop
  | .tap r x => bytes = 0x11 :: r :: bytes32 x
  | .door i d => bytes = [0x12, i, match d with | .opened => 0 | .shut => 1 | .unknown => 2]
  | .bolt i dir o => bytes = [0x13, i, match dir with | .throw => 0 | .retract => 1,
      match o with | .done => 0 | .failed .thrown => 1 | .failed .retracted => 2 | .failed .unknown => 3]
  | .status ty doors => doors.length ≤ 8 ∧ ∃ ds : List Byte,
      bytes = 0x14 :: (match ty with | .lock => 0 | .cabin => 1 | .kiosk => 2 | .exit => 3)
        :: BitVec.ofNat 8 doors.length :: ds
      ∧ ds.map (fun b => b.toNat % 16) = doors.map (fun p =>
          (match p.1 with | .opened => 0 | .shut => 1 | .unknown => 2)
          + 4 * (match p.2 with | .thrown => 0 | .retracted => 1 | .unknown => 2))

/-- A body is spelled by items one after another. -/
def SpellsBody : List ReplyItem → List Byte → Prop
  | [], body => body = []
  | it :: rest, body => ∃ x y, body = x ++ y ∧ SpellsItem x it ∧ SpellsBody rest y

/-- A number of two bytes, the high one first (R182). -/
def two (n : Nat) : List Byte := [BitVec.ofNat 8 (n / 256), BitVec.ofNat 8 n]

/-- A band serial of four bytes, the high one first (R182). -/
def four (x : Serial) : List Byte := two (x.toNat / 65536) ++ two x.toNat

/-- The bytes between the start and the CRC, then the CRC over them, high byte first (R182, R184). -/
def sealed (start : Byte) (inner : List Byte) : List Byte := [start] ++ inner ++ two (crc16 inner).toNat

/-- The codes of the purposes, CLAIM 1 to EVAC 8 (R183). -/
def purposeNumber : Purpose → Nat
  | .claim => 1 | .relock => 2 | .opening => 3 | .staffOpen => 4 | .admission => 5 | .secure => 6 | .reset => 7 | .evac => 8

/-- A door: its type, locker 0 or cabin 1, and its number (R183). -/
def doorSpelled : DoorId → List Byte
  | .locker n => [0] ++ two n.val
  | .cabin n => [1] ++ two n.val

/-- The fields of EXIT, EXIT_DUE and CLOSE (R183). -/
def tallySpelled (t : TallyFields) : List Byte :=
  [BitVec.ofNat 8 t.set.val, BitVec.ofNat 8 t.cls.val] ++ two t.exitMinute ++ two t.stay ++ two t.charge ++ two t.fees
    ++ two t.total ++ two t.credit ++ two t.due

/-- What a record's frame carries (R144, R183). -/
structure RecordParts where
  kind : Nat
  evac : Bool := false
  notEntered : Bool := false
  orphaned : Bool := false
  serial : Option Serial
  requester : Option Serial := none
  fields : List Byte

/-- The parts of a record, by its kind. The layout of ABANDONED has no place for its requester (DESIGN CHOICE,
log 30). -/
def recordParts : RecordBody → RecordParts
  | .action p l x r o =>
    { kind := purposeNumber p, orphaned := o, serial := x, requester := r, fields := two l.val ++ four (r.getD 0) }
  | .giveUp l x => { kind := 5, serial := some x, fields := two l.val }
  | .failed d x r p n o =>
    { kind := 6, orphaned := o, serial := x, requester := r
      fields := doorSpelled d ++ four (r.getD 0) ++ [BitVec.ofNat 8 (purposeNumber p), BitVec.ofNat 8 n] }
  | .abandoned d x _ p o =>
    { kind := 7, orphaned := o, serial := x, fields := doorSpelled d ++ [BitVec.ofNat 8 (purposeNumber p)] }
  | .reserve l x w => { kind := 8, serial := some x, fields := two l.val ++ [BitVec.ofNat 8 w] }
  | .reserveLapsed l x => { kind := 9, serial := x, fields := two l.val }
  | .cabinIn c x t => { kind := 10, serial := x, fields := [BitVec.ofNat 8 c.val, BitVec.ofNat 8 (t.getD 0)] }
  | .cabinOut c x o e ev ne =>
    { kind := 11, evac := ev, notEntered := ne, serial := x
      fields := [BitVec.ofNat 8 c.val] ++ two o ++ [BitVec.ofNat 8 e] }
  | .callLapsed c x t => { kind := 12, serial := x, fields := [BitVec.ofNat 8 c.val, BitVec.ofNat 8 (t.getD 0)] }
  | .exit t ev => { kind := 13, evac := ev, serial := some t.serial, fields := tallySpelled t }
  | .exitDue t => { kind := 14, serial := some t.serial, fields := tallySpelled t }
  | .close t => { kind := 15, serial := some t.serial, fields := tallySpelled t }
  | .dayClosed n => { kind := 16, serial := none, fields := two n }

/-- A record body: the common part of 9 bytes, then the fields (R183). The flags are EVAC 01h, NOT_ENTERED 02h,
ORPHANED 04h, serial present 08h, requester present 10h. -/
def recordSpelled (r : Record) (frameNumber : Byte) : List Byte :=
  let x := recordParts r.body
  let bit := fun (b : Bool) (v : Nat) => if b = true then v else 0
  [frameNumber, BitVec.ofNat 8 x.kind] ++ two r.minute
    ++ [BitVec.ofNat 8 (bit x.evac 0x01 + bit x.notEntered 0x02 + bit x.orphaned 0x04 + bit x.serial.isSome 0x08
        + bit x.requester.isSome 0x10)]
    ++ four (x.serial.getD 0) ++ x.fields

/-- The codes of the refusals, FORMAT 1 to CLOCK_UNSET 8 (R183). -/
def refusalNumber : RefusalCode → Byte
  | .format => 1 | .range => 2 | .state => 3 | .notFound => 4 | .inUse => 5 | .full => 6 | .busy => 7 | .clockUnset => 8

/-- The reasons of RED in the order of R184, numbered from 1. -/
def reasonNumber (q : RedReason) : Nat :=
  [RedReason.closed, .unknownBand, .staff, .barred, .evacuation, .notHolder, .outOfService, .doorOpen, .zoneShut,
    .useKiosk, .classExcluded, .limit, .inspect, .noFree, .inCabin, .queuedElsewhere, .queueFull, .overtime, .noExtend,
    .lockerHeld, .payDue].idxOf q + 1

/-- An item of a poll frame (R184). P and Q of OFF and STEADY are 0 (DESIGN CHOICE, log 13). -/
def itemSpelled : CmdItem → List Byte
  | .showAt r x => [0x01, BitVec.ofNat 8 r.val] ++ (match x with
    | .green => [0, 0] ++ two 0
    | .red q n => [1, BitVec.ofNat 8 (reasonNumber q)] ++ two (min n 9999)
    | .amber => [2, 0] ++ two 0
    | .number n => [3, 0] ++ two n
    | .ticket n => [4, 0] ++ two n)
  | .actuate d dir => [0x02, BitVec.ofNat 8 d.val, match dir with | .throw => 0 | .retract => 1]
  | .lamp .off => [0x03, 0, 0, 0]
  | .lamp .steady => [0x03, 1, 0, 0]
  | .lamp (.blink x y) => [0x03, 2, BitVec.ofNat 8 x, BitVec.ofNat 8 y]
  | .ident => [0x04]
  | .gate => [0x05]

end Sys2Proof.Claims

open Sys2Proof Sys2Proof.Machine Sys2Proof.Claims

/-! ## The step and the machine -/

/-- A step takes the front command and runs it on the state with the queue's rest. For every command c and state s:
step of s with c at the front of its queue is exec c on s with the queue's rest. The queue that the step takes from is
the model's own (DESIGN CHOICE, log 1). -/
def Obligations.StepRunsFront : Prop :=
  ∀ (c : Instr) (rest : List Instr) (s : State), s.pending = c :: rest → step s = exec c { s with pending := rest }

/-- Every command answers a next state (DEDUCED, log 24: no rule makes the part stop), leaves the queue, counts one
event, and never moves time back (log 1, log 2). On an empty queue a millisecond passes and nothing else happens (DESIGN CHOICE, log 1). The count of events, the clock
in milliseconds and the idle step are the model's own. -/
def Obligations.EveryStepAnswers : Prop :=
  (∀ (c : Instr) (s : State), ∃ t, exec c s = .next t ∧ t.pending = s.pending ∧ t.eventNo = s.eventNo + 1
    ∧ s.now ≤ t.now)
  ∧ ∀ s : State, s.pending = [] → step s = .next { s with now := s.now + 1 }

/-- COLD_RESET leaves every block at its reset values, the station read from the straps. That the queue, the model's
clock and the event count, and the pins' levels, are kept is the model's choice (log 21); that the settle timer of a
line whose pin is high then runs is the model's reading (DEDUCED, log 20). -/
def Obligations.ColdResetResult : Prop :=
  ∀ (straps : BitVec 4) (s : State), ∃ t, exec (.coldReset straps) s = .next t
    ∧ (t.visit = [] ∧ t.lockers = [] ∧ t.cabins = [])
    ∧ (∀ k : Fin 16, t.classes[k] = ⟨1, false, false, false, false, 0, 0, 0⟩)
    ∧ (∀ (q : Fin 4) (k : Fin 16), (t.tariffs[q])[k] = ⟨1, 0, 0⟩)
    ∧ t.schedule = [⟨0, 0⟩] ∧ t.control = ⟨10, 5, 1, 20, 20⟩
    ∧ (∀ z : Fin 16, t.zones[z] = ⟨0, 0, 0xFFFF, .rotate, 60, false⟩ ∧ t.rotors[z] = 1023)
    ∧ (∀ k : Fin 4, t.cabinClasses[k] = ⟨600, 300, 0, 60, 60, 10⟩ ∧ t.classQueues[k] = [] ∧ t.tickets[k] = 0)
    ∧ t.queue = ⟨[], 0, false⟩
    ∧ (∀ i : Fin 8, t.alerts[i] = ⟨none, 0⟩ ∧ t.watches[i] = none)
    ∧ (∀ sp : Fin 4, t.spurs[sp] = ⟨.b19200, [], 31, [], none, none, [], []⟩)
    ∧ t.trunk = ⟨if straps = 15 then 14 else ⟨straps.toNat, by omega⟩, ⟨.hunt, []⟩, [], 0, .idle, []⟩
    ∧ t.clock = ⟨none, 0, s.now + 60000, .closed, 0, .idle, 0, false⟩
    ∧ (∀ i : Fin 6, t.lines[i] =
        ⟨.unmapped, false, false, (s.lines[i]).high, if (s.lines[i]).high then some (s.now + 50) else none⟩)
    ∧ t.pending = s.pending ∧ t.eventNo = s.eventNo + 1 ∧ t.now = s.now

/-! ## What every step keeps -/

/-- The reset state meets every invariant below. -/
def Obligations.ResetKeepsAll : Prop :=
  QueueBounded State.reset ∧ ListsBounded State.reset ∧ RepliesBounded State.reset ∧ StationLegal State.reset
    ∧ TablesCanonical State.reset ∧ VisitConsistent State.reset

/-- The sum of the Record Queue stays at most 128 through every step. -/
def Obligations.StepKeepsSum : Prop := ∀ s t : State, QueueBounded s → step s = .next t → QueueBounded t

/-- Every head's command list keeps the bounds of R166 through every step. -/
def Obligations.StepKeepsLists : Prop := ∀ s t : State, ListsBounded s → step s = .next t → ListsBounded t

/-- At most four replies wait, and the station stays 0 to 14, through every step. -/
def Obligations.StepKeepsReplies : Prop :=
  ∀ s t : State, RepliesBounded s ∧ StationLegal s → step s = .next t → RepliesBounded t ∧ StationLegal t

/-- The tables of bands, lockers, cabins and heads keep their canonical form through every step. Canonical form (keys
strictly rising) is how the model writes the tables down. -/
def Obligations.StepKeepsTables : Prop := ∀ s t : State, TablesCanonical s → step s = .next t → TablesCanonical t

/-- The Visit Table stays consistent through every step: slots 0 to 4095, valid and distinct serials, empty in CLOSED,
no band below the cursor in CLOSING; with the walk and the clock agreeing with the day. -/
def Obligations.StepKeepsVisit : Prop := ∀ s t : State, VisitConsistent s → step s = .next t → VisitConsistent t

/-- After every command the transmitter is idle only with nothing to send. When within an event the choice is made is
the model's choice (log 6). -/
def Obligations.CommandServesTransmitter : Prop :=
  ∀ (c : Instr) (s t : State), exec c s = .next t → TransmitterServed t

/-- The arbiter's choice, with which every event ends, and the bytes of the frame it begins: an upstream frame's header,
body and CRC, the segments of a reply, and a record's common part and fields. The moment of the choice (the end of the
event) is the model's choice (log 6), as is that the frame of ABANDONED carries no requester (DESIGN CHOICE, log 30).
The data of the replies' kinds are not spelled here. -/
def Obligations.ArbiterChooses : Prop :=
  (∀ s : State, (s.trunk.arbiter ≠ .idle → s.arbitrate = s)
    ∧ (s.trunk.arbiter = .idle → ∀ r rs, s.trunk.replies = r :: rs → ∃ kind body, r.bodies[0]? = some (kind, body)
        ∧ s.arbitrate = { s with trunk := { s.trunk with
            arbiter := .sendingReply 0, txFrame := upstreamFrame s.trunk.station kind s.attention body } })
    ∧ (s.trunk.arbiter = .idle → s.trunk.replies = [] → ∀ r rs, s.queue.paused = false → s.queue.records = r :: rs →
        s.arbitrate = { s with trunk := { s.trunk with
          arbiter := .sendingRecord, frameNumber := s.trunk.frameNumber + 1
          txFrame := upstreamFrame s.trunk.station 0xE2 s.attention (r.bytes (s.trunk.frameNumber + 1)) } })
    ∧ (s.trunk.arbiter = .idle → s.trunk.replies = [] → s.queue.paused = true ∨ s.queue.records = [] →
        s.arbitrate = s))
  ∧ (∀ (station : Fin 16) (kind : Byte) (attention : Nat) (body : List Byte),
      upstreamFrame station kind attention body = sealed 0xA5
        ([BitVec.ofNat 8 station.val, kind, BitVec.ofNat 8 attention, BitVec.ofNat 8 body.length] ++ body))
  ∧ (∀ (kind : Byte) (c : RefusalCode), Reply.bodies ⟨kind, .refused c⟩ = [(0xE1, [kind, refusalNumber c])])
  ∧ (∀ (kind : Byte) (d : ReplyData),
      (Reply.bodies ⟨kind, .accepted d⟩).length = d.segments.length
      ∧ ∀ (i : Nat) (data : List Byte), d.segments[i]? = some data → (Reply.bodies ⟨kind, .accepted d⟩)[i]?
          = some (0xE0, [kind, BitVec.ofNat 8 (i % 4 + if i + 1 = d.segments.length then 0x80 else 0)] ++ data))
  ∧ ∀ (r : Record) (frameNumber : Byte), r.bytes frameNumber = recordSpelled r frameNumber

/-! ## Frames of the trunk -/

/-- Every command read from the body that carries it is that command: no field of a body is dropped. The body is at
most 60 bytes long. And a body that is read at all is the body of the command read: a wrong length, a reserved bit set
and a code that is not listed are read as nothing. That a nonzero zone byte beside an action other than ZONE, and a
nonzero class byte beside one other than CLASS, are such is the model's choice (DESIGN CHOICE, log 33), as is reading
the upper bits of an intake byte as reserved (DEDUCED, log 28) and which of 0 and 1 means on (DESIGN CHOICE, log 34). -/
def Obligations.BodiesReadBack : Prop :=
  (∀ c : Command, c.spelled → readBody c.kind c.body = some c ∧ c.body.length ≤ 60)
  ∧ ∀ (k : FrameKind) (body : List Byte) (c : Command), readBody k body = some c →
    c.kind = k ∧ c.spelled ∧ c.body = body

/-- A whole frame that arrives byte by byte, the assembly hunting, is judged as the frame it spells. The row
TRUNK_INTER_BYTE_GAP fed the whole frame from its start byte answers as DROPPED_FRAME does for the frame and CRC read
from the bytes. That a row carries the bytes is the model's choice (log 5). -/
def Obligations.LineSpellsFrame : Prop :=
  ∀ (kind hi lo : Byte) (f : Frame) (s : State), s.trunk.assembly.phase = .hunt → f.body.length ≤ 60 →
    exec (.trunkInterByteGap
        ([0xA5, f.station, kind, BitVec.ofNat 8 f.body.length] ++ f.body ++ [hi, lo])) s
      = exec (.droppedFrame kind f (word16 hi lo)) s

/-- A gap in an unfinished frame abandons it, however many bytes it has, and after any gap the assembly hunts; a length
above 60, and a framing error anywhere in a frame, abandon it. That the rows carry the bytes is the model's choice
(log 5). -/
def Obligations.FramesAbandoned : Prop :=
  ∀ s : State,
    (∀ bytes t, exec (.trunkInterByteGap bytes) s = .next t → t.trunk.assembly = ⟨.hunt, []⟩)
    ∧ (s.trunk.assembly = ⟨.hunt, []⟩ →
        (∀ bytes, bytes.length ≤ 5 → exec (.trunkInterByteGap bytes) s = .next (framed s).arbitrate)
        ∧ (∀ st kind len : Byte, 60 < len.toNat →
            exec (.trunkFrameAbandoned [⟨0xA5, false⟩, ⟨st, false⟩, ⟨kind, false⟩, ⟨len, false⟩]) s
              = .next (framed s).arbitrate)
        ∧ (∀ (bytes : List TrunkByte) (last : Byte), bytes.length ≤ 5 →
            exec (.trunkFrameAbandoned (bytes ++ [⟨last, true⟩])) s = .next (framed s).arbitrate)
        ∧ (∀ (st kind len last : Byte) (part : List Byte), len.toNat ≤ 60 → part.length < len.toNat + 2 →
            exec (.trunkInterByteGap ([0xA5, st, kind, len] ++ part)) s = .next (framed s).arbitrate
            ∧ exec (.trunkFrameAbandoned
                (([0xA5, st, kind, len] ++ part).map (fun b => ⟨b, false⟩) ++ [⟨last, true⟩])) s
              = .next (framed s).arbitrate))

/-- A complete frame is dropped for a wrong CRC, for another station, or for a full reply list; a dropped frame has no
effect, and a frame whose CRC is right is the frame of its kind. That a row other than DROPPED_FRAME stands for a
frame with a right CRC is the model's choice (log 4). -/
def Obligations.FramesDropped : Prop :=
  ∀ (kind : Byte) (f : Frame) (crc : BitVec 16) (s : State),
    (frameCrc f kind ≠ crc → exec (.droppedFrame kind f crc) s = .next (framed s).arbitrate)
    ∧ (frameCrc f kind = crc → exec (.droppedFrame kind f crc) s = exec (.unknownFrameKind kind f) s)
    ∧ (∀ i : Instr, i.framed? = some (kind, f) →
        (f.station.toNat ≠ s.trunk.station.val ∧ f.station ≠ 15
          ∨ f.station.toNat = s.trunk.station.val ∧ f.station ≠ 15 ∧ 4 ≤ s.trunk.replies.length) →
        exec i s = .next (framed s).arbitrate)

/-- A taken frame of an unknown kind, or whose body is wrong in form, is refused FORMAT and changes nothing else. -/
def Obligations.FormRefused : Prop :=
  ∀ (i : Instr) (kind : Byte) (f : Frame) (s : State), i.framed? = some (kind, f) → f.body.length ≤ 60 → Ready s →
    f.station.toNat = s.trunk.station.val →
    (∀ k, FrameKind.ofCode kind = some k → readBody k f.body = none) →
    exec i s = .next (replied (framed s) kind (.refused .format)).arbitrate

/-- A taken frame right in form is answered by exactly one reply, of its owner's handling; a refusal changes nothing. -/
def Obligations.OwnerAnswers : Prop :=
  ∀ (i : Instr) (k : FrameKind) (f : Frame) (c : Command) (s : State), i.framed? = some (k.code, f) →
    f.body.length ≤ 60 → Ready s → f.station.toNat = s.trunk.station.val → readBody k f.body = some c →
    exec i s = .next (match owner c (framed s) with
      | .accepted t d => replied t k.code (.accepted d)
      | .refused e => replied (framed s) k.code (.refused e)).arbitrate

/-- A broadcast is carried out and never answered; the seven kinds that only produce a reply have no effect, and a
broadcast of an unknown kind or of a wrong form, refused by the trunk, has none either. -/
def Obligations.BroadcastUnanswered : Prop :=
  (∀ (i : Instr) (k : FrameKind) (f : Frame) (c : Command) (s : State), i.framed? = some (k.code, f) →
    f.body.length ≤ 60 → f.station = 15 → readBody k f.body = some c →
    exec i s = .next (if k ∈ [FrameKind.bandQuery, .lockerQuery, .cabinQuery, .queueQuery, .alertPeek, .statusQuery,
          .alertFetch] then framed s
      else match owner c (framed s) with
        | .accepted t _ => t
        | .refused _ => framed s).arbitrate)
  ∧ ∀ (i : Instr) (kind : Byte) (f : Frame) (s : State), i.framed? = some (kind, f) → f.body.length ≤ 60 →
    f.station = 15 → (∀ k, FrameKind.ofCode kind = some k → readBody k f.body = none) →
    exec i s = .next (framed s).arbitrate

/-! ## Bands -/

/-- BAND_ISSUE: its checks in order, then the record in the lowest free slot. With the minute of day UNSET, which no
run reaches, the latched set is a free value: the statement holds for every value of it (DESIGN CHOICE, log 12). -/
def Obligations.BandIssueResult : Prop :=
  ∀ (s : State) (serial : Serial) (cls : Byte) (group credit : Option (BitVec 16)), Ready s →
    (group = none → credit = none) →
    let c := Command.bandIssue serial cls group credit
    let wrong := badSerial serial ∨ 15 < cls.toNat ∨ 1023 < (group.getD 0).toNat
    let present := ∃ e ∈ s.visit, e.2.serial = serial
    (wrong → Refuses .bandIssue c s .range)
    ∧ (¬wrong → s.clock.day ≠ .opened → Refuses .bandIssue c s .state)
    ∧ (¬wrong → s.clock.day = .opened → present → Refuses .bandIssue c s .inUse)
    ∧ (¬wrong → s.clock.day = .opened → ¬present → 4096 ≤ s.visit.length → Refuses .bandIssue c s .full)
    ∧ (¬wrong → s.clock.day = .opened → ¬present → s.visit.length < 4096 →
        ∀ k : Fin 16, k.val = cls.toNat → ∃ q : Fin 4,
          (∀ m, s.clock.minuteOfDay = some m → q = setInForce s.schedule m)
          ∧ Answers .bandIssue c s
            (withBand (framed s) (Table.firstFree 0 s.visit) ⟨serial, .active, k, (group.getD 0).toNat,
              s.clock.siteMinute, q, (credit.getD 0).toNat, 0, [], none, none, 0, none⟩)
            (.issued (Table.firstFree 0 s.visit) s.clock.siteMinute q))

/-- BAND_CREDIT: the amount is added, saturating at 65,535, and nothing else changes. -/
def Obligations.BandCreditResult : Prop :=
  ∀ (s : State) (serial : Serial) (amount : BitVec 16), Ready s →
    let c := Command.bandCredit serial amount
    (badSerial serial → Refuses .bandCredit c s .range)
    ∧ (¬badSerial serial → s.findBand serial = none → Refuses .bandCredit c s .notFound)
    ∧ (¬badSerial serial → ∀ slot b, Present s serial slot b →
        Answers .bandCredit c s
          (withBand (framed s) slot { b with credit := min (b.credit + amount.toNat) 65535 })
          (.credit (min (b.credit + amount.toNat) 65535)))

/-- BAND_BAR on: a band already BARRED is left; another becomes BARRED, leaves its queue, and its call lapses. BAND_BAR
off: strikes 0, and a BARRED band returns to ACTIVE with a frozen exit whose deadline has passed cleared. -/
def Obligations.BandBarResult : Prop :=
  ∀ (s : State) (serial : Serial), Ready s →
    let on := Command.bandBar serial true
    let off := Command.bandBar serial false
    (badSerial serial → Refuses .bandBarOn on s .range ∧ Refuses .bandBarOff off s .range)
    ∧ (¬badSerial serial → s.findBand serial = none →
        Refuses .bandBarOn on s .notFound ∧ Refuses .bandBarOff off s .notFound)
    ∧ (¬badSerial serial → ∀ slot b, Present s serial slot b →
      (b.state = .barred → Answers .bandBarOn on s (framed s) (.barred .barred false))
      ∧ (b.state ≠ .barred →
          let queues := match b.queueLink with
            | some l => s.classQueues.set l.cls.val ((s.classQueues[l.cls]).filter (fun e => e.serial != b.serial))
            | none => s.classQueues
          let u := { withBand (framed s) slot { b with state := .barred, queueLink := none } with classQueues := queues }
          Answers .bandBarOn on s
            (match b.cabinLink with
              | some ⟨n, .called⟩ => u.lapseCall n
              | _ => u)
            (.barred .barred (b.queueLink.isSome || b.cabinLink.any (fun l => l.role == .called))))
      ∧ (let st := if b.state = .barred then .active else b.state
         let fr := if b.state = .barred then b.frozen.filter (fun f => decide (s.clock.siteMinute ≤ f.deadline))
           else b.frozen
         Answers .bandBarOff off s (withBand (framed s) slot { b with state := st, strikes := 0, frozen := fr })
           (.unbarred st)))

/-- BAND_VOID: outside CLOSED the removal routine runs, and the reply counts the lockers inspected and the actions
orphaned. -/
def Obligations.BandVoidResult : Prop :=
  ∀ (s : State) (serial : Serial), Ready s →
    let c := Command.bandVoid serial
    (badSerial serial → Refuses .bandVoid c s .range)
    ∧ (¬badSerial serial → s.clock.day = .closed → Refuses .bandVoid c s .state)
    ∧ (¬badSerial serial → s.clock.day ≠ .closed → s.findBand serial = none → Refuses .bandVoid c s .notFound)
    ∧ (¬badSerial serial → s.clock.day ≠ .closed → ∀ slot b, Present s serial slot b →
        Answers .bandVoid c s ((framed s).remove slot)
          (.voided slot
            (b.holdings.countP (fun n => (s.locker? n).any (fun l => l.state == .locked && l.action.isNone)))
            (b.holdings.countP (fun n => (s.locker? n).any (fun l => l.action.isSome)))))

/-- The removal routine, in its order: each held locker is settled by its action or its state, with an INSPECT alert
for each LOCKED one and a reserved place given up for each RESERVED one; then a call lapses, or an occupant leaves the
cabin's entry and nothing else of the cabin changes; then the band's entry leaves the queue it waits in, and the slot is
free. Nothing else changes. A call lapses by turning its place into CALL_LAPSED and freeing the cabin, which runs its
call step. -/
def Obligations.RemovalRoutine : Prop :=
  (∀ (s : State) (slot : Nat) (b : Band), TablesCanonical s → s.band? slot = some b → b.holdings.Nodup →
    let hit := fun (st : LockerState) =>
      b.holdings.filter (fun n => (s.locker? n).any (fun l => l.state == st && l.action.isNone))
    ∃ u : State, u = { s with
        lockers := u.lockers, alerts := u.alerts
        queue := { s.queue with reserved := s.queue.reserved - (hit .reserved).length } }
      ∧ (∀ n ∈ b.holdings, ∀ l, s.locker? n = some l →
          u.locker? n = some (match l.action, l.state with
            | some a, _ => { l with holder := none, action := some { a with orphaned := true } }
            | none, .locked => { l with state := .inspect, holder := none }
            | none, .released => { l with state := .vacant, holder := none }
            | none, .reserved => { l with state := .vacant, holder := none, reserveDeadline := none }
            | none, _ => { l with holder := none }))
      ∧ (∀ n, n ∉ b.holdings ∨ s.locker? n = none → u.locker? n = s.locker? n)
      ∧ (hit .locked = [] → u.alerts = s.alerts)
      ∧ (∀ l n, hit .locked = l ++ [n] → u.alerts = s.alerts.set AlertClass.inspect.index.val
          ⟨some ⟨s.clock.siteMinute, .locker n, .cause .removed⟩,
            ((s.alerts[AlertClass.inspect.index]).sequence + (hit .locked).length) % 8⟩)
      ∧ ∃ v : State, v = (match b.cabinLink with
          | some ⟨n, .called⟩ => u.lapseCall n
          | some ⟨n, .occupant⟩ => { u with cabins := u.cabins.map (fun e =>
              (e.1, if e.1 = n.val then { e.2 with band := none } else e.2)) }
          | none => u)
        ∧ s.remove slot = { v with
            visit := Table.drop slot v.visit
            classQueues := match (v.band? slot).bind Band.queueLink with
              | some q => v.classQueues.set q.cls.val ((v.classQueues[q.cls]).filter (fun e => e.serial != b.serial))
              | none => v.classQueues })
  ∧ ∀ (s : State) (n : Fin 64) (c : Cabin), TablesCanonical s → s.cabin? n = some c →
    (c.state ≠ .called → s.lapseCall n = s)
    ∧ (c.state = .called → 0 < s.queue.reserved → s.clock.evacuation = false →
      s.lapseCall n = (withCabin (unlinked (converted s (.callLapsed n c.band c.ticket)) c.band) n
        { c with callDeadline := none, band := none, ticket := none, slot := false, state := .free }).callStep n)

/-- BAND_REPLACE: every reference to the old serial is changed in the same event. -/
def Obligations.BandReplaceResult : Prop :=
  ∀ (s : State) (old new : Serial), Ready s →
    let wrong := badSerial old ∨ badSerial new
    let c := Command.bandReplace old new
    let change := fun x : Option Serial => if x = some old then some new else x
    let act := fun a : Action => { a with holder := change a.holder, requester := change a.requester }
    (wrong → Refuses .bandReplace c s .range)
    ∧ (¬wrong → s.clock.day = .closed → Refuses .bandReplace c s .state)
    ∧ (¬wrong → s.clock.day ≠ .closed → s.findBand old = none → Refuses .bandReplace c s .notFound)
    ∧ (¬wrong → s.clock.day ≠ .closed → ∀ slot b, Present s old slot b →
        ((∃ e ∈ s.visit, e.2.serial = new) → Refuses .bandReplace c s .inUse)
        ∧ ((∀ e ∈ s.visit, e.2.serial ≠ new) → Answers .bandReplace c s
            { withBand (framed s) slot { b with serial := new } with
                lockers := s.lockers.map (fun e => (e.1, { e.2 with holder := change e.2.holder
                                                                    action := e.2.action.map act }))
                cabins := s.cabins.map (fun e => (e.1, { e.2 with band := change e.2.band
                                                                  action := e.2.action.map act }))
                classQueues := s.classQueues.map
                  (fun q => q.map (fun e => { e with serial := if e.serial = old then new else e.serial })) }
            (.slot slot)))

/-! ## Queries, loads and settings -/

/-- The queries change nothing but the reply list, and report the entries as they stand; an identifier out of range, and
an entry that does not exist, are refused. -/
def Obligations.QueriesReport : Prop :=
  ∀ s : State, Ready s →
    (∀ serial slot b, ¬badSerial serial → Present s serial slot b →
      Answers .bandQuery (.bandQuery serial) s (framed s) (.band ⟨slot, b, b.holdings.map
        (fun n => ((s.locker? n).map Locker.state, ((s.locker? n).bind Locker.action).isSome))⟩))
    ∧ (∀ serial, (badSerial serial → Refuses .bandQuery (.bandQuery serial) s .range)
        ∧ (¬badSerial serial → s.findBand serial = none → Refuses .bandQuery (.bandQuery serial) s .notFound))
    ∧ (∀ f l : BitVec 16,
        let entry := fun i : Nat => Table.get? (f.toNat + i) s.lockers
        let some4 := ∃ i, i ≤ l.toNat - f.toNat ∧ (entry i).isSome = true
        let good := l.toNat ≤ 1023 ∧ f.toNat ≤ l.toNat ∧ l.toNat ≤ f.toNat + 3
        (¬good → Refuses .lockerQuery (.lockerQuery f l) s .range)
        ∧ (good → ¬some4 → Refuses .lockerQuery (.lockerQuery f l) s .notFound)
        ∧ (good → some4 → Answers .lockerQuery (.lockerQuery f l) s (framed s) (.lockers
            ((List.range (l.toNat - f.toNat + 1)).map (fun i => (entry i).map (fun l =>
              ⟨l.state, l.zone, l.holder, l.door, l.bolt,
                if l.state = .reserved then l.reserveDeadline.map (secondsLeft s.now) else none,
                l.action.map (fun a => (a.direction, a.purpose, a.attempt, a.orphaned))⟩))))))
    ∧ (∀ x : Byte, (15 < x.toNat → Refuses .lockerQueryZone (.lockerQueryZone x) s .range)
        ∧ (63 < x.toNat → Refuses .cabinQuery (.cabinQuery x) s .range)
        ∧ (3 < x.toNat → Refuses .queueQuery (.queueQuery x) s .range)
        ∧ (x = 0 ∨ 8 < x.toNat → Refuses .alertPeek (.alertPeek x) s .range))
    ∧ (∀ n : Fin 64, s.cabin? n = none → Refuses .cabinQuery (.cabinQuery (BitVec.ofNat 8 n.val)) s .notFound)
    ∧ (∀ z : Fin 16,
        let named := (s.lockers.map Prod.snd).filter (fun l => l.zone == z)
        Answers .lockerQueryZone (.lockerQueryZone (BitVec.ofNat 8 z.val)) s (framed s)
          (.zoneReport ⟨s.zones[z], s.rotors[z],
            [LockerState.verify, .vacant, .reserved, .locked, .released, .inspect, .jammed, .outOfService].map
              (fun st => named.countP (fun l => l.state == st)), named.countP (fun l => l.action.isSome)⟩))
    ∧ (∀ (n : Fin 64) (c : Cabin), s.cabin? n = some c →
        Answers .cabinQuery (.cabinQuery (BitVec.ofNat 8 n.val)) s (framed s)
          (.cabin ⟨n, c, c.remainingAt s.now, c.overtimeAt s.now, c.callDeadline.map (secondsLeft s.now),
            c.entryDeadline.map (secondsLeft s.now)⟩))
    ∧ (∀ k : Fin 4,
        let free := (s.cabins.map Prod.snd).filter (fun c => c.cls == k && c.state == .free)
        Answers .queueQuery (.queueQuery (BitVec.ofNat 8 k.val)) s (framed s)
          (.queue ⟨s.classQueues[k], s.tickets[k], free.length, free.countP Cabin.deferred⟩))
    ∧ (∀ c : AlertClass, Answers .alertPeek (.alertPeek (BitVec.ofNat 8 c.number)) s (framed s)
        (.alert (some (c, s.alerts[c.index]))))
    ∧ Answers .statusQuery .statusQuery s (framed s) (.status ⟨s.trunk.station, s.clock.day, s.clock.minuteOfDay,
        s.clock.siteMinute, s.clock.cursor, s.clock.walk == .waiting, s.visit.length, s.clock.evacuation,
        s.lines.toList.map (fun l => if isInput l.function then some l.taken else none), s.queue.paused,
        s.queue.records.length, s.queue.reserved, s.attention,
        s.spurs.toList.map (fun p => [HeadState.identifying, .online, .silent, .mismatched].map
          (fun st => p.heads.countP (fun e => e.2.state == st)))⟩)

/-- The loads of the Tally Unit, the zones and the cabin classes store their clamped values and change nothing else; an
identifier out of range is refused RANGE, and CONTROL_LOAD BUSY where an action has an attempt above the new retries
plus 1. -/
def Obligations.LoadsStore : Prop :=
  ∀ s : State, Ready s →
    (∀ (k hold grace : Byte) (f m : BitVec 4) (a : BitVec 16),
      let c := Command.classLoad k hold f a grace m
      let d : ClassDesc := ⟨if hold.toNat ≤ 1 then 1 else 2, f.getLsbD 0, f.getLsbD 1, f.getLsbD 2, f.getLsbD 3,
        min a.toNat 1023, min grace.toNat 63, m⟩
      (15 < k.toNat → Refuses .classLoad c s .range)
      ∧ (∀ h : k.toNat < 16, Answers .classLoad c s
          { framed s with classes := s.classes.set k.toNat d } (.classDesc d)))
    ∧ (∀ (q k step : Byte) (p cap : BitVec 16),
      let c := Command.tariffLoad q k step p cap
      let t : Tariff := ⟨min 120 (max 1 step.toNat), min p.toNat 9999, cap.toNat⟩
      (3 < q.toNat ∨ 15 < k.toNat → Refuses .tariffLoad c s .range)
      ∧ (∀ (h : q.toNat < 4) (h' : k.toNat < 16), Answers .tariffLoad c s
          { framed s with tariffs := s.tariffs.set q.toNat ((s.tariffs[q.toNat]).set k.toNat t) } (.tariff t)))
    ∧ (∀ (z : Byte) (i : BitVec 3) (fee mask : BitVec 16) (mo : ZoneMode) (w : Byte) (r : Bool),
      let c := Command.zoneLoad z i fee mask mo w r
      let d : Zone := ⟨min i.toNat 3, min fee.toNat 9999, mask, mo, max 10 w.toNat, r⟩
      (z = 255 → Answers .zoneLoad c s { framed s with zones := Vector.replicate 16 d } (.zone d))
      ∧ (z ≠ 255 → 15 < z.toNat → Refuses .zoneLoad c s .range)
      ∧ (∀ h : z.toNat < 16, Answers .zoneLoad c s { framed s with zones := s.zones.set z.toNat d } (.zone d)))
    ∧ (∀ (k m w b : Byte) (a e n : BitVec 16),
      let c := Command.cabinClassLoad k a e m w n b
      let allowance := min 3600 (max 60 a.toNat)
      let d : CabinParams := ⟨allowance, min 1800 (max 60 e.toNat), min m.toNat 3, min 120 (max 15 w.toNat),
        min (min n.toNat 300) allowance, min 40 (max 2 b.toNat)⟩
      (3 < k.toNat → Refuses .cabinClassLoad c s .range)
      ∧ (∀ h : k.toNat < 4, Answers .cabinClassLoad c s
          { framed s with cabinClasses := s.cabinClasses.set k.toNat d } (.cabinParams d)))
    ∧ (∀ h l r a t : Byte,
      let c := Command.controlLoad h l r a t
      let limit := if l.toNat = 0 then 0 else if l.toNat < 3 then 3 else if 7 < l.toNat then 7 else l.toNat
      let d : Control := ⟨min h.toNat 60, limit, min r.toNat 3, min 50 (max 5 a.toNat), min 50 (max 2 t.toNat)⟩
      let busy := (∃ e ∈ s.lockers, ∃ x, e.2.action = some x ∧ d.retries + 1 < x.attempt)
        ∨ ∃ e ∈ s.cabins, ∃ x, e.2.action = some x ∧ d.retries + 1 < x.attempt
      (busy → Refuses .controlLoad c s .busy)
      ∧ (¬busy → Answers .controlLoad c s { framed s with control := d } (.control d)))

/-- SCHEDULE_LOAD: a list of 1 to 8 periods in range and strictly ascending replaces the schedule; any other is refused
RANGE. The set in force is that of the last period whose start is at or below the minute, else of the last period. -/
def Obligations.ScheduleLoadResult : Prop :=
  (∀ (s : State) (ps : List (BitVec 16 × Byte)), Ready s → ps.length ≤ 20 →
    let c := Command.scheduleLoad ps
    let good := 1 ≤ ps.length ∧ ps.length ≤ 8 ∧ (∀ p ∈ ps, p.1.toNat ≤ 1439 ∧ p.2.toNat ≤ 3)
      ∧ ps.Pairwise (fun p q => p.1.toNat < q.1.toNat)
    (¬good → Refuses .scheduleLoad c s .range)
    ∧ (good → ∃ l : List Period, l.map (fun p => (p.start, p.set.val)) = ps.map (fun p => (p.1.toNat, p.2.toNat))
        ∧ Answers .scheduleLoad c s { framed s with schedule := l }
            (.schedule l.length (s.clock.minuteOfDay.map (setInForce l)))
        ∧ ∀ m, s.clock.minuteOfDay = some m → State.issueSet { framed s with schedule := l } = setInForce l m))
  ∧ ∀ (a b : List Period) (p : Period) (m : Nat), (a ++ p :: b).Pairwise (fun p q => p.start < q.start) →
    (p.start ≤ m → (∀ q ∈ b, m < q.start) → setInForce (a ++ p :: b) m = p.set)
    ∧ (b = [] → (∀ q ∈ a ++ [p], m < q.start) → setInForce (a ++ p :: b) m = p.set)

/-- PAUSE and RESUME set and clear the paused flag, and report the flag, the records and the reserved count. -/
def Obligations.PauseResult : Prop :=
  ∀ s : State, Ready s →
    Answers .pause .pause s { framed s with queue := { s.queue with paused := true } }
      (.records true s.queue.records.length s.queue.reserved)
    ∧ Answers .resume .resume s { framed s with queue := { s.queue with paused := false } }
      (.records false s.queue.records.length s.queue.reserved)

/-- WATCH_SET writes an entry whole and arms it; WATCH_CLEAR makes it clear; both report what it held. -/
def Obligations.WatchResult : Prop :=
  ∀ (s : State) (i : Fin 8), Ready s →
    let e := BitVec.ofNat 8 i.val
    (∀ (serial : Serial) (m : Byte), ¬badSerial serial → m.toNat ≤ 1 →
      Answers .watchSet (.watchSet e 0 m serial) s
        { framed s with watches := s.watches.set i.val (some ⟨.band serial, if m = 0 then .note else .hold, true⟩) }
        (.watch s.watches[i]))
    ∧ (∀ (f l : Fin 1024) (m : Byte), f ≤ l → m.toNat ≤ 1 →
      Answers .watchSet (.watchSet e 1 m (BitVec.ofNat 16 f.val ++ BitVec.ofNat 16 l.val)) s
        { framed s with watches := s.watches.set i.val (some ⟨.range f l, if m = 0 then .note else .hold, true⟩) }
        (.watch s.watches[i]))
    ∧ Answers .watchClear (.watchClear e) s { framed s with watches := s.watches.set i.val none } (.watch s.watches[i])
    ∧ (∀ (x t m : Byte) (g : BitVec 32), 7 < x.toNat → Refuses .watchSet (.watchSet x t m g) s .range
        ∧ Refuses .watchClear (.watchClear x) s .range)
    ∧ (∀ (serial : Serial) (m : Byte), badSerial serial → Refuses .watchSet (.watchSet e 0 m serial) s .range)
    ∧ (∀ (f l : BitVec 16) (m : Byte), ¬(f.toNat ≤ l.toNat ∧ l.toNat ≤ 1023) →
        Refuses .watchSet (.watchSet e 1 m (f ++ l)) s .range)
    ∧ (∀ (serial : Serial) (m : Byte), ¬badSerial serial → 1 < m.toNat → Refuses .watchSet (.watchSet e 0 m serial) s .format)
    ∧ (∀ (f l : Fin 1024) (m : Byte), f ≤ l → 1 < m.toNat →
        Refuses .watchSet (.watchSet e 1 m (BitVec.ofNat 16 f.val ++ BitVec.ofNat 16 l.val)) s .format)
    ∧ (∀ (t m : Byte) (g : BitVec 32), 1 < t.toNat → Refuses .watchSet (.watchSet e t m g) s .format)

/-- ALERT_FETCH reads and empties the latch of the attention code: the full latch of the lowest class number. -/
def Obligations.AlertFetchResult : Prop :=
  ∀ s : State, Ready s →
    ((∀ c : AlertClass, (s.alerts[c.index]).notice = none) →
      Answers .alertFetch .alertFetch s (framed s) (.alert none))
    ∧ (∀ (c : AlertClass) (x : Notice) (n : Nat), s.alerts[c.index] = ⟨some x, n⟩ →
        (∀ d : AlertClass, d.number < c.number → (s.alerts[d.index]).notice = none) →
        Answers .alertFetch .alertFetch s { framed s with alerts := s.alerts.set c.index.val ⟨none, n⟩ }
          (.alert (some (c, ⟨some x, n⟩))))

/-- ALERT_CLEAR empties every latch the mask names, in one event, keeps every sequence number, and reports the attention
code after the clear. -/
def Obligations.AlertClearResult : Prop :=
  ∀ (s : State) (mask : BitVec 8), Ready s →
    ∃ v : Vector Latch 8,
      (∀ c : AlertClass, v[c.index] =
        if mask.getLsbD (c.number - 1) then ⟨none, (s.alerts[c.index]).sequence⟩ else s.alerts[c.index])
      ∧ Answers .alertClear (.alertClear mask) s { framed s with alerts := v }
          (.attention (State.attention { s with alerts := v }))
      ∧ (∀ c : AlertClass, State.attention { s with alerts := v } = c.number ↔
          v[c.index].notice.isSome = true ∧ ∀ d : AlertClass, d.number < c.number → v[d.index].notice = none)
      ∧ (State.attention { s with alerts := v } = 0 ↔ ∀ c : AlertClass, v[c.index].notice = none)
      ∧ (∀ c x d, (State.alert { framed s with alerts := v } c x d).alerts[c.index]
          = ⟨some ⟨s.clock.siteMinute, x, d⟩, ((s.alerts[c.index]).sequence + 1) % 8⟩)

/-! ## Lockers and cabins commanded -/

/-- LOCKER_SET: each action's refusals, then the action over every existing locker of the range it applies to;
SERVICE_IN and RECHECK place an IDENT at the head of each locker they ask. That
the reply of ZONE counts only the lockers whose zone differs is the model's reading (DEDUCED, log 29). -/
def Obligations.LockerSetResult : Prop :=
  (∀ (s : State) (n : Fin 1024), s.askStatus n = s.place (lockerSpur n) (lockerAddress n) .ident)
  ∧ ∀ (s : State) (f l : Fin 1024), Ready s → TablesCanonical s → f ≤ l →
    let c := fun a z : Byte => Command.lockerSet (BitVec.ofNat 16 f.val) (BitVec.ofNat 16 l.val) a z
    let named := s.lockersIn f.val l.val
    let hit := fun p : Locker → Bool => named.filter (fun n => (s.locker? n).any p)
    let set := fun (p : Locker → Bool) (g : Locker → Locker) =>
      { framed s with
        lockers := s.lockers.map
          (fun e => (e.1, if f.val ≤ e.1 ∧ e.1 ≤ l.val ∧ p e.2 = true then g e.2 else e.2)) }
    let out := fun x : Locker => x.state ∈ [LockerState.vacant, .inspect, .jammed, .verify]
    let off := fun x : Locker => decide (x.state = .outOfService)
    let look := fun x : Locker => x.state ∈ [LockerState.vacant, .inspect, .jammed] ∧ x.action = none
    (∀ n, n ∈ named ↔ f ≤ n ∧ n ≤ l ∧ (s.locker? n).isSome = true)
    ∧ (∀ (x y : BitVec 16) (a z : Byte), a = 4 ∨ z = 0 → 1023 < x.toNat ∨ 1023 < y.toNat ∨ y.toNat < x.toNat →
        Refuses (lockerRow a) (.lockerSet x y a z) s .range)
    ∧ (∀ a z : Byte, a = 4 ∨ z = 0 → a = 0 ∨ 4 < a.toNat ∨ 15 < z.toNat → Refuses (lockerRow a) (c a z) s .range)
    ∧ (named = [] → ∀ a z : Byte, a = 4 ∨ z = 0 → 1 ≤ a.toNat → a.toNat ≤ 4 → z.toNat ≤ 15 →
        Refuses (lockerRow a) (c a z) s .notFound)
    ∧ (named ≠ [] →
        (hit (fun x => x.holder.isSome) ≠ [] → Refuses .serviceOut (c 1 0) s .inUse)
        ∧ (hit (fun x => x.holder.isSome) = [] → hit (fun x => x.action.isSome) ≠ [] →
            Refuses .serviceOut (c 1 0) s .busy)
        ∧ (hit (fun x => x.holder.isSome) = [] → hit (fun x => x.action.isSome) = [] →
            Answers .serviceOut (c 1 0) s (set (fun x => out x) (fun x => { x with state := .outOfService }))
              (.changed (hit (fun x => out x)).length))
        ∧ (hit (fun x => off x && x.action.isSome) ≠ [] → Refuses .serviceIn (c 2 0) s .busy)
        ∧ (hit (fun x => off x && x.action.isSome) = [] →
            Answers .serviceIn (c 2 0) s
              ((hit off).foldl State.askStatus (set off (fun x => { x with state := .verify, holder := none })))
              (.changed (hit off).length))
        ∧ Answers .recheck (c 3 0) s
            ((hit (fun x => look x ∨ x.state = .verify)).foldl State.askStatus
              (set (fun x => look x) (fun x => { x with state := .verify })))
            (.changed (hit (fun x => look x)).length)
        ∧ (∀ z : Fin 16, Answers .lockerSetZone (c 4 (BitVec.ofNat 8 z.val)) s
            (set (fun _ => true) (fun x => { x with zone := z })) (.changed (hit (fun x => x.zone ≠ z)).length)))

/-- CABIN_SET: CLOSE disables a FREE cabin, REOPEN asks the head of a DISABLED one with no movement, CLASS writes the
class of a FREE or DISABLED cabin and a FREE one runs the call step. -/
def Obligations.CabinSetResult : Prop :=
  ∀ s : State, Ready s →
    (∀ m a k : Byte, a = 3 ∨ k = 0 → 63 < m.toNat ∨ a = 0 ∨ 3 < a.toNat ∨ 3 < k.toNat →
      Refuses (cabinRow a) (.cabinSet m a k) s .range)
    ∧ ∀ n : Fin 64,
      let m := BitVec.ofNat 8 n.val
      (s.cabin? n = none → ∀ a k : Byte, a = 3 ∨ k = 0 → 1 ≤ a.toNat → a.toNat ≤ 3 → k.toNat ≤ 3 →
        Refuses (cabinRow a) (.cabinSet m a k) s .notFound)
      ∧ ∀ e, s.cabin? n = some e →
        (e.state ≠ .free → Refuses .cabinSetClose (.cabinSet m 1 0) s .inUse)
        ∧ (e.state = .free → Answers .cabinSetClose (.cabinSet m 1 0) s
            (withCabin (framed s) n { e with state := .disabled, statusWait := .nothing, deferred := false })
            (.cabinState .disabled))
        ∧ (e.state ≠ .disabled → Refuses .cabinSetReopen (.cabinSet m 2 0) s .inUse)
        ∧ (e.state = .disabled → e.action ≠ none → Refuses .cabinSetReopen (.cabinSet m 2 0) s .busy)
        ∧ (e.state = .disabled → e.action = none → Answers .cabinSetReopen (.cabinSet m 2 0) s
            ((withCabin (framed s) n { e with statusWait := .reopen }).place e.spur e.address .ident)
            (.cabinState .disabled))
        ∧ ∀ k : Fin 4,
          let c := Command.cabinSet m 3 (BitVec.ofNat 8 k.val)
          let u := withCabin (framed s) n { e with cls := k, deferred := false }
          (e.state ≠ .free → e.state ≠ .disabled → Refuses .cabinSetClass c s .inUse)
          ∧ (e.state = .disabled → Answers .cabinSetClass c s u (.cabinState .disabled))
          ∧ (e.state = .free → ∃ r, (u.callStep n).cabin? n = some r
              ∧ Answers .cabinSetClass c s (u.callStep n) (.cabinState r.state))

/-- The call step (R113): a FREE cabin with nobody waiting stays so; outside OPEN or in an evacuation nobody is called;
with the Record Queue full the call is deferred; else the head of the queue is called on one reserved place. -/
def Obligations.CallStepRule : Prop :=
  ∀ (s : State) (n : Fin 64) (c : Cabin), s.cabin? n = some c →
    (c.state ≠ .free → s.callStep n = s)
    ∧ (c.state = .free → s.classQueues[c.cls] = [] → s.callStep n = withCabin s n { c with deferred := false })
    ∧ (c.state = .free → ∀ q rest, s.classQueues[c.cls] = q :: rest →
        (s.clock.evacuation = true ∨ s.clock.day ≠ .opened → s.callStep n = withCabin s n { c with deferred := false })
        ∧ (s.clock.evacuation = false → s.clock.day = .opened → 128 ≤ s.queue.sum →
            s.callStep n = withCabin s n { c with deferred := true })
        ∧ (s.clock.evacuation = false → s.clock.day = .opened → s.queue.sum < 128 →
            ∀ slot b, Present s q.serial slot b →
            s.callStep n =
              ((withBand (withCabin { reserved s with classQueues := s.classQueues.set c.cls.val rest } n
                { c with state := .called, band := some q.serial, ticket := some q.ticket, slot := true,
                         callDeadline := some (s.now + (s.cabinClasses[c.cls]).callWindow * 1000), deferred := false })
                slot { b with cabinLink := some ⟨n, .called⟩, queueLink := none })).place c.spur c.address
                  (.showAt 0 (.number q.ticket))))

/-! ## Heads and spurs commanded -/

/-- HEAD_ENROL: an address out of range, a head not MISMATCHED and a cabin number taken are refused; a fresh head is
IDENTIFYING with one IDENT, its doors created, and an idle spur polls it. Fields of a fresh cabin for which the spec
names no value (log 10) and the pending-since moment being the event's number (log 8) are the model's choice. -/
def Obligations.HeadEnrolResult : Prop :=
  ∀ s : State, Ready s →
    (∀ p a t x : Byte, 3 < p.toNat ∨ 31 < a.toNat ∨ 3 < t.toNat ∨ (t = 0 ∧ (x = 0 ∨ 8 < x.toNat))
        ∨ (t = 1 ∧ 63 < x.toNat) ∨ (t = 2 ∧ 15 < x.toNat) ∨ (t = 3 ∧ x ≠ 0) →
      Refuses .headEnrol (.headEnrol p a t x) s .range)
    ∧ ∀ (sp : Fin 4) (a : Fin 32) (e : Enrolment), (∀ k, e = .lock k → 1 ≤ k ∧ k ≤ 8) →
      let c := Command.headEnrol (BitVec.ofNat 8 sp.val) (BitVec.ofNat 8 a.val) (enrolCodes e).1 (enrolCodes e).2
      let taken := ∃ n, e = .cabin n ∧ ∃ (q : Fin 4) (x : Nat × Head), x ∈ (s.spurs[q]).heads
        ∧ x.2.enrolment = .cabin n ∧ (q, x.1) ≠ (sp, a.val)
      (taken → Refuses .headEnrol c s .inUse)
      ∧ (∀ h, s.head? sp a = some h → h.state ≠ .mismatched → Refuses .headEnrol c s .inUse)
      ∧ (¬taken → s.head? sp a = none →
          let made := withDoors { framed s with spurs := s.spurs.set sp.val { s.spurs[sp] with
              heads := Table.put a.val ⟨.identifying, e, 0, false, some (s.eventNo + 1), false, [.ident]⟩
                (s.spurs[sp]).heads } } sp a e
          Answers .headEnrol c s (if (s.spurs[sp]).exchange = none then made.beginPoll sp else made)
            (.headState .identifying))
      ∧ (¬taken → ∀ h, s.head? sp a = some h → h.state = .mismatched → h.enrolment = e →
          let made := ((framed s).modHead sp a (fun h => { h with state := .identifying, misses := 0 })).place sp a .ident
          Answers .headEnrol c s (if (s.spurs[sp]).exchange = none then made.beginPoll sp else made)
            (.headState .identifying))
      ∧ (¬taken → ∀ h, s.head? sp a = some h → h.state = .mismatched → h.enrolment ≠ e →
          (∀ r, Held s sp a h.enrolment r → Refuses .headEnrol c s r)
          ∧ ((∀ r, ¬Held s sp a h.enrolment r) →
              let made := ((framed s).removeHead sp a h.enrolment).makeHead sp a e
              Answers .headEnrol c s (if (s.spurs[sp]).exchange = none then made.beginPoll sp else made)
                (.headState .identifying)))

/-- HEAD_REMOVE: a head whose doors are held, moving or in use is refused; else its entry and its doors are gone and an
exchange with it is marked. POLL_PLAN: its checks, then the bit rate and the fast list. -/
def Obligations.HeadRemoveAndPlanResult : Prop :=
  ∀ s : State, Ready s →
    (∀ p a : Byte, 3 < p.toNat ∨ 31 < a.toNat → Refuses .headRemove (.headRemove p a) s .range)
    ∧ (∀ (sp : Fin 4) (a : Fin 32),
      let c := Command.headRemove (BitVec.ofNat 8 sp.val) (BitVec.ofNat 8 a.val)
      (s.head? sp a = none → Refuses .headRemove c s .notFound)
      ∧ ∀ h, s.head? sp a = some h →
        (∀ r, Held s sp a h.enrolment r → Refuses .headRemove c s r)
        ∧ ((∀ r, ¬Held s sp a h.enrolment r) → Answers .headRemove c s
            (withoutDoors { framed s with spurs := s.spurs.set sp.val { s.spurs[sp] with
                heads := Table.drop a.val (s.spurs[sp]).heads,
                exchange := (s.spurs[sp]).exchange.map
                  (fun x => { x with removed := x.removed || x.address == a }) } } sp a h.enrolment)
            .nothing))
    ∧ (∀ (p r : Byte) (fast : List Byte), fast.length ≤ 58 →
      3 < p.toNat ∨ 3 < r.toNat ∨ (∃ b ∈ fast, 31 < b.toNat) ∨ 4 < fast.length ∨ ¬fast.Nodup →
      Refuses .pollPlan (.pollPlan p r fast) s .range)
    ∧ (∀ (sp : Fin 4) (r : BitRate) (fast : List (Fin 32)), fast.length ≤ 4 → fast.Nodup →
      let c := Command.pollPlan (BitVec.ofNat 8 sp.val) (BitVec.ofNat 8 (rateCode r)) (fast.map (fun a => BitVec.ofNat 8 a.val))
      let busy := (∃ x ∈ (s.spurs[sp]).heads, x.2.items ≠ [] ∨ x.2.identOwed = true)
        ∨ (∃ n : Fin 1024, n.val / 256 = sp.val ∧ ∃ l, s.locker? n = some l ∧ l.action ≠ none)
        ∨ ∃ (n : Fin 64) (k : Cabin), s.cabin? n = some k ∧ k.spur = sp ∧ k.action ≠ none
      (r ≠ (s.spurs[sp]).rate → busy → Refuses .pollPlan c s .busy)
      ∧ (r = (s.spurs[sp]).rate ∨ ¬busy → Answers .pollPlan c s
          { framed s with spurs := s.spurs.set sp.val { s.spurs[sp] with rate := r, fastList := fast } } (.plan r fast)))

/-- RESTART: the spurs of the mask are restarted in ascending order. A restarted spur begins its round afresh: its
first poll, with the IDENT placed, is of the first enrolled head of the fast list, else of the lowest enrolled head;
every enrolled head is IDENTIFYING. The lockers in movement go to VERIFY with their holders, the cabins in movement go
where R119 sends them, each abandoned locker action and ADMIT turns its place into an ABANDONED record, lockers first,
each in ascending order, and the bands of the abandoned ADMITs lose their cabin links. Nothing else changes. That the
pending-since moment is the event's number, and is kept beside the exchange of the polled head, whose emptied list
clears it, is the model's reading (DEDUCED, log 8), as is the requester held in the record, for
which the frame has no place (log 30). -/
def Obligations.RestartResult : Prop :=
  (∀ (s : State) (mask : BitVec 4), Ready s →
    let named := (List.finRange 4).filter (fun i => mask.getLsbD i.val)
    Answers .restart (.restart mask) s (named.foldl State.restartSpur (framed s))
      (.restarted (named.map (fun sp => (s.spurs[sp]).heads.length)).sum
        (named.map (fun sp => (s.movingLockers sp).length + (s.movingCabins sp).length)).sum))
  ∧ ∀ (s : State) (sp : Fin 4), TablesCanonical s →
    let t := s.restartSpur sp
    let p := s.spurs[sp]
    let q := t.spurs[sp]
    t = { s with spurs := s.spurs.set sp.val q, lockers := t.lockers, cabins := t.cabins, visit := t.visit, queue := t.queue }
    ∧ q.rate = p.rate ∧ q.fastList = p.fastList ∧ q.cursor = p.cursor ∧ q.rxFifo = []
    ∧ (q.exchange = none ↔ ∀ a, s.head? sp a = none)
    ∧ (∀ x, q.exchange = some x → x = ⟨x.address, .sending, p.rate, none, false, [], some s.eventNo⟩
        ∧ q.txFifo = pollFrame x.address [.ident]
        ∧ s.head? sp x.address ≠ none
        ∧ ((∃ skipped rest, p.fastList = skipped ++ x.address :: rest ∧ ∀ a ∈ skipped, s.head? sp a = none)
          ∨ (∀ a ∈ p.fastList, s.head? sp a = none) ∧ ∀ a, s.head? sp a ≠ none → x.address ≤ a))
    ∧ (∀ a : Fin 32, match s.head? sp a, t.head? sp a with
        | some h, some h' => h'.enrolment = h.enrolment ∧ h'.state = .identifying ∧ h'.misses = 0 ∧ h'.more = false
            ∧ h'.identOwed = false
            ∧ (q.exchange.map Exchange.address = some a → h'.items = [] ∧ h'.pendingSince = none)
            ∧ (q.exchange.map Exchange.address ≠ some a → h'.items = [.ident] ∧ h'.pendingSince = some s.eventNo)
        | none, none => True
        | _, _ => False)
    ∧ (∀ n : Fin 1024, t.locker? n = (s.locker? n).map (fun l =>
        if n.val / 256 = sp.val ∧ l.action ≠ none
        then { l with state := .verify, reserveDeadline := none, action := none } else l))
    ∧ (∀ n : Fin 64, t.cabin? n = (s.cabin? n).map (fun c =>
        if c.spur = sp ∧ c.action ≠ none then restartedCabin s.clock.evacuation c else c))
    ∧ (∃ (ls : List (Fin 1024)) (cs : List (Fin 64)),
        ls.Pairwise (fun m n => m < n) ∧ cs.Pairwise (fun m n => m < n)
        ∧ (∀ n, n ∈ ls ↔ n.val / 256 = sp.val ∧ ∃ l, s.locker? n = some l ∧ l.action ≠ none)
        ∧ (∀ n, n ∈ cs ↔ ∃ c, s.cabin? n = some c ∧ c.spur = sp ∧ c.action ≠ none ∧ c.state = .admitting)
        ∧ (ls.length + cs.length ≤ s.queue.reserved → t.queue = { s.queue with
            records := s.queue.records
              ++ ls.filterMap (fun n => ((s.locker? n).bind Locker.action).map (fun x => ⟨s.clock.siteMinute,
                  .abandoned (.locker n) (if x.orphaned = true then none else x.holder) x.requester x.purpose x.orphaned⟩))
              ++ cs.filterMap (fun n => (s.cabin? n).map (fun c => ⟨s.clock.siteMinute,
                  .abandoned (.cabin n) c.band none .admission false⟩))
            reserved := s.queue.reserved - (ls.length + cs.length) }))
    ∧ (serialsDistinct s.visit → ∀ (slot : Nat),
        (s.band? slot = none → t.band? slot = none)
        ∧ ∀ b, s.band? slot = some b →
          let lost := ∃ n c, s.cabin? n = some c ∧ c.spur = sp ∧ c.action ≠ none ∧ c.state = .admitting
            ∧ c.band = some b.serial
          (lost → t.band? slot = some { b with cabinLink := none }) ∧ (¬lost → t.band? slot = some b))

/-! ## The clock, the day and the lines -/

/-- TIME_SET sets the minute of day and nothing else; it stays set until a cold reset, decides the set a later issue
latches, and the next minute event advances it. -/
def Obligations.TimeSetResult : Prop :=
  (∀ (s : State) (m : BitVec 16), Ready s →
    let t := { framed s with clock := { s.clock with minuteOfDay := some m.toNat } }
    (1439 < m.toNat → Refuses .timeSet (.timeSet m) s .range)
    ∧ (m.toNat ≤ 1439 → Answers .timeSet (.timeSet m) s t (.time m.toNat s.clock.siteMinute)
        ∧ t.issueSet = setInForce s.schedule m.toNat
        ∧ ∃ u, exec .minuteEvent t = .next u
            ∧ u.clock.minuteOfDay = some (if m.toNat = 1439 then 0 else m.toNat + 1)))
  ∧ ∀ (i : Instr) (s t : State), (∀ x, i ≠ .coldReset x) → exec i s = .next t → s.clock.minuteOfDay.isSome = true →
    t.clock.minuteOfDay.isSome = true

/-- MINUTE_EVENT advances the minute of day if it is set, and the site minute outside CLOSED up to 65,535. OPEN_DAY
opens a CLOSED day with the clock set; DAY_CLOSE begins the close walk in OPEN. The moments in milliseconds are the
model's (log 2). -/
def Obligations.ClockAndDayResult : Prop :=
  ∀ s : State,
    exec .minuteEvent s = .next (State.arbitrate { counted s with
      now := max s.now s.clock.minuteDue
      clock := { s.clock with
        minuteOfDay := s.clock.minuteOfDay.map (fun m => if 1439 ≤ m then 0 else m + 1)
        siteMinute := if s.clock.day = .closed then s.clock.siteMinute else min (s.clock.siteMinute + 1) 65535
        minuteDue := s.clock.minuteDue + 60000 } })
    ∧ (Ready s →
      (s.clock.day ≠ .closed → Refuses .openDay .openDay s .state)
      ∧ (s.clock.day = .closed → s.clock.minuteOfDay = none → Refuses .openDay .openDay s .clockUnset)
      ∧ (s.clock.day = .closed → ∀ m, s.clock.minuteOfDay = some m → Answers .openDay .openDay s
          { framed s with clock := { s.clock with day := .opened, siteMinute := 0, minuteDue := s.now + 60000 } }
          (.opened m))
      ∧ (s.clock.day ≠ .opened → Refuses .dayClose .dayClose s .state)
      ∧ (s.clock.day = .opened → Answers .dayClose .dayClose s
          { framed s with clock := { s.clock with day := .closing, cursor := 0, walk := .due, closes := 0 } }
          (.closing s.visit.length s.clock.siteMinute)))

/-- LINES_LOAD writes functions and polarities, a changed line starting released; LINE_CHANGE starts or cancels an
input's settle timer; SETTLE_TIMER takes the pin's level and acts by the line's function. That the release of EVAC_IN
is evaluated once after all six lines are set is the model's reading (DEDUCED, log 27); when an input that LINES_LOAD
changes begins to settle is log 20. SETTLE_TIMER moves the model's clock to the timer's moment, and does nothing with
no timer running (DESIGN CHOICE, log 2). An output line is driven by the attention code, the evacuation flag or the sum,
with its polarity; an input line is not driven. -/
def Obligations.LinesResult : Prop :=
  ∀ s : State,
    (∀ x : Vector (LineFunction × Bool) 6, Ready s → ∃ v : Vector Line 6,
      (∀ i : Fin 6, v[i] = if (s.lines[i]).function = (x[i]).1 ∧ (s.lines[i]).inverted = (x[i]).2 then s.lines[i]
        else ⟨(x[i]).1, (x[i]).2, false, (s.lines[i]).high,
          if isInput (x[i]).1 = true ∧ (s.lines[i]).high ≠ (x[i]).2 then some (s.now + 50) else none⟩)
      ∧ Answers .linesLoad (.linesLoad x[0] x[1] x[2] x[3] x[4] x[5]) s
          (if s.clock.evacuation = true ∧ ∀ i : Fin 6, (v[i]).function ≠ .evacIn ∨ (v[i]).taken = false
            then State.releaseEvacuation { framed s with lines := v } else { framed s with lines := v })
          (.lines v.toList))
    ∧ (∀ (i : Fin 6) (high : Bool),
      let l := s.lines[i]
      let moved := isInput l.function = true ∧ (high != l.inverted) ≠ l.taken
      exec (.lineChange i high) s = .next (State.arbitrate { counted s with
        lines := s.lines.set i.val { l with high := high, settle := if moved then some (l.settle.getD (s.now + 50)) else none } }))
    ∧ (∀ i : Fin 6,
      let l := s.lines[i]
      (l.settle = none → exec (.settleTimer i) s = .next (counted s).arbitrate)
      ∧ ∀ m, l.settle = some m →
        let level := l.high != l.inverted
        let u := { counted s with
          now := max s.now m, lines := s.lines.set i.val { l with taken := level, settle := none } }
        let held := ∃ j : Fin 6, (u.lines[j]).function = .evacIn ∧ (u.lines[j]).taken = true
        (l.function = .evacIn → level = true → s.clock.evacuation = true →
          exec (.settleTimer i) s = .next (noticed u .evacuation (.line i) .asserted).arbitrate)
        ∧ (l.function = .evacIn → level = true → s.clock.evacuation = false →
          exec (.settleTimer i) s = .next (noticed u .evacuation (.line i) .asserted).assertEvacuation.arbitrate)
        ∧ (l.function = .evacIn → level = false → s.clock.evacuation = true → ¬held →
          exec (.settleTimer i) s = .next u.releaseEvacuation.arbitrate)
        ∧ (l.function = .evacIn → level = false → s.clock.evacuation = false ∨ held →
          exec (.settleTimer i) s = .next u.arbitrate)
        ∧ (l.function = .closeKey → level = true → s.clock.day = .opened →
          exec (.settleTimer i) s = .next (State.arbitrate
            { u with clock := { s.clock with day := .closing, cursor := 0, walk := .due, closes := 0 } }))
        ∧ (l.function ≠ .evacIn → l.function = .closeKey → level = false ∨ s.clock.day ≠ .opened →
          exec (.settleTimer i) s = .next u.arbitrate)
        ∧ (l.function ≠ .evacIn → l.function ≠ .closeKey → exec (.settleTimer i) s = .next u.arbitrate))
    ∧ ∀ i : Fin 6,
      let l := s.lines[i]
      let driven := fun p : Prop => ∃ high : Bool, s.outputHigh i = some high ∧ (high ≠ l.inverted ↔ p)
      (l.function = .unmapped ∨ l.function = .evacIn ∨ l.function = .closeKey → s.outputHigh i = none)
      ∧ (l.function = .attentionOut → driven (∃ c : AlertClass, (s.alerts[c.index]).notice ≠ none))
      ∧ (l.function = .evacOut → driven (s.clock.evacuation = true))
      ∧ (l.function = .backpressureOut → driven (120 ≤ s.queue.records.length + s.queue.reserved))

/-- The evacuation flag asserted: the cabins are taken in ascending order, and each not DISABLED becomes EVACUATED with
its counts stopped, its band, ticket and deadlines gone, a RETRACT with purpose EVAC handed over in place of any action
in flight, and its lamp OFF; the place of a call becomes CALL_LAPSED and that of an admission or occupancy CABIN_OUT,
each in its cabin's turn; the bands of those cabins lose their cabin links; then every class queue is emptied and its
bands lose their queue links. Released, the cabins are taken in ascending order: the action of each EVACUATED one, if
one is in flight, ends with no successor, its status wait becomes none, and a THROW with purpose RESET is handed over.
Nothing else changes but the command lists of the cabins' heads, by those endings, hand-overs and lamps. The
overtime and extensions that the CABIN_OUT of an ADMITTING cabin carries, and the fields of an entry that R116 does not
name keeping their values, are the model's reading (DEDUCED, logs 18 and 25). That a RESET in flight at the release is
ended like an EVAC and handed over anew is the model's choice (DESIGN CHOICE, log 38). -/
def Obligations.EvacuationRule : Prop :=
  ∀ s : State, TablesCanonical s →
    (let t := s.assertEvacuation
     t = { s with
       clock := { s.clock with evacuation := true }, classQueues := Vector.replicate 4 [],
       cabins := t.cabins, visit := t.visit, queue := t.queue, spurs := t.spurs }
     ∧ (∀ n, s.cabin? n = none → t.cabin? n = none)
     ∧ (∀ n c, s.cabin? n = some c → c.state = .disabled → t.cabin? n = some c)
     ∧ (∀ n c, s.cabin? n = some c → c.state ≠ .disabled → t.cabin? n = some
         { evacuated s.now c with lamp := .off, action := some (newAction s .retract .evac none none false) })
     ∧ (∃ ns : List (Fin 64), ns.Pairwise (fun m n => m < n) ∧ (∀ n, n ∈ ns ↔ (s.cabin? n).isSome = true)
         ∧ t.spurs = (ns.foldl State.evacuateCabin s).spurs
         ∧ (let ended := ns.filterMap (fun n => (s.cabin? n).bind (evacuationEntry s.now n))
            ended.length ≤ s.queue.reserved → t.queue = { s.queue with
              records := s.queue.records ++ ended.map (fun b => ⟨s.clock.siteMinute, b⟩)
              reserved := s.queue.reserved - ended.length }))
     ∧ (serialsDistinct s.visit → ∀ slot : Nat,
         (s.band? slot = none → t.band? slot = none)
         ∧ ∀ b, s.band? slot = some b →
           let lost := ∃ n c, s.cabin? n = some c ∧ c.band = some b.serial
             ∧ c.state ∈ [CabinState.called, .admitting, .occupied, .overtime, .vacating]
           let left := ∃ (k : Fin 4) (e : QueueEntry), e ∈ s.classQueues[k] ∧ e.serial = b.serial
           ∃ cl ql, t.band? slot = some { b with cabinLink := cl, queueLink := ql }
             ∧ (lost → cl = none) ∧ (¬lost → cl = b.cabinLink) ∧ (left → ql = none) ∧ (¬left → ql = b.queueLink)))
    ∧ (∀ n c, s.cabin? n = some c →
        (c.state = .disabled → s.evacuateCabin n = s)
        ∧ (c.state ≠ .disabled → (evacuationEntry s.now n c ≠ none → 0 < s.queue.reserved) →
          let u := match evacuationEntry s.now n c with
            | some r => unlinked (converted s r) c.band
            | none => s
          s.evacuateCabin n = ((withCabin (if c.action = none then u else u.endAction (.cabin n)) n
            (evacuated s.now c)).handOver (.cabin n) .retract .evac none none false).followLamp n))
    ∧ (let t := s.releaseEvacuation
     t = { s with clock := { s.clock with evacuation := false }, cabins := t.cabins, spurs := t.spurs }
     ∧ (∀ n, s.cabin? n = none → t.cabin? n = none)
     ∧ (∀ n c, s.cabin? n = some c → c.state ≠ .evacuated → t.cabin? n = some c)
     ∧ (∀ n c, s.cabin? n = some c → c.state = .evacuated → t.cabin? n = some
         { c with statusWait := .nothing, action := some (newAction s .throw .reset none none false) })
     ∧ ∃ ns : List (Fin 64), ns.Pairwise (fun m n => m < n) ∧ (∀ n, n ∈ ns ↔ (s.cabin? n).isSome = true)
         ∧ t.spurs = (ns.foldl State.releaseCabin s).spurs)
    ∧ ∀ n c, s.cabin? n = some c →
        (c.state ≠ .evacuated → s.releaseCabin n = s)
        ∧ (c.state = .evacuated → s.releaseCabin n
            = (withCabin (if c.action = none then s else s.endAction (.cabin n)) n
                { c with action := none, statusWait := .nothing }).handOver (.cabin n) .throw .reset none none false)

/-- REPLY_SENT and REPLY_SEGMENT_SENT: the last segment's end drops the reply, another's begins the next segment.
RECORD_SENT drops the oldest record, runs the call step of the deferred cabins and wakes a waiting walk. That a row
has no effect when the transmitter holds no such frame is the model's reading (DEDUCED, log 22). -/
def Obligations.TransmitterResult : Prop :=
  ∀ s : State,
    (∀ (n : Nat) (r : Reply) (rs : List Reply), s.trunk.arbiter = .sendingReply n → s.trunk.replies = r :: rs →
      (r.bodies.length ≤ n + 1 →
        exec .replySent s = .next (State.arbitrate
          { counted s with trunk := { s.trunk with arbiter := .idle, txFrame := [], replies := rs } })
        ∧ exec .replySegmentSent s = .next (counted s))
      ∧ (∀ kind body, r.bodies[n + 1]? = some (kind, body) →
        exec .replySegmentSent s = .next { counted s with trunk := { s.trunk with
          arbiter := .sendingReply (n + 1), txFrame := upstreamFrame s.trunk.station kind s.attention body } }
        ∧ exec .replySent s = .next (counted s)))
    ∧ (s.trunk.arbiter = .sendingRecord →
        let u := { counted s with
          trunk := { s.trunk with arbiter := .idle, txFrame := [] },
          queue := { s.queue with records := s.queue.records.drop 1 } }
        let v := u.deferredCabins.foldl State.callStep u
        exec .recordSent s = .next (State.arbitrate
          { v with clock := { v.clock with walk := if s.clock.walk = .waiting then .due else s.clock.walk } })
        ∧ (∀ n, n ∈ u.deferredCabins ↔ ∃ c, s.cabin? n = some c ∧ c.state = .free ∧ c.deferred = true))
    ∧ (s.trunk.arbiter ≠ .sendingRecord → exec .recordSent s = .next (counted s).arbitrate)
    ∧ ((∀ n, s.trunk.arbiter ≠ .sendingReply n) ∨ s.trunk.replies = [] →
        exec .replySent s = .next (counted s).arbitrate ∧ exec .replySegmentSent s = .next (counted s).arbitrate)

/-- A due walk step removes the first band at or above the cursor behind its CLOSE record; with none left it is the
final step, which writes DAY_CLOSED and leaves CLOSED; without a place the walk waits; not due, nothing happens. That
a walk row without a step due has no effect is the model's reading (DEDUCED, log 19). -/
def Obligations.CloseWalkResult : Prop :=
  ∀ s : State,
    let waits := { counted s with clock := { s.clock with walk := .waiting } }
    let ended := written { counted s with clock := { s.clock with day := .closed, cursor := 0, walk := .idle } }
      (.dayClosed s.clock.closes)
    (s.clock.walk ≠ .due → exec .closeWalkStep s = .next (counted s).arbitrate
      ∧ exec .closeWalkFinalStep s = .next (counted s).arbitrate)
    ∧ (s.clock.walk = .due → Table.wf s.visit = true → ∀ (slot : Nat) (b : Band), s.band? slot = some b →
        s.clock.cursor ≤ slot → (∀ k, s.clock.cursor ≤ k → k < slot → s.band? k = none) →
        exec .closeWalkFinalStep s = .next (counted s).arbitrate
        ∧ (s.queue.sum < 128 →
            let u := (written (counted s) (.close (s.tallyOf b))).remove slot
            exec .closeWalkStep s = .next (State.arbitrate
              { u with clock := { s.clock with cursor := slot + 1, closes := s.clock.closes + 1 } }))
        ∧ (128 ≤ s.queue.sum → exec .closeWalkStep s = .next waits.arbitrate))
    ∧ (s.clock.walk = .due → Table.wf s.visit = true → (∀ k, s.clock.cursor ≤ k → s.band? k = none) →
        ∀ i ∈ [Instr.closeWalkStep, .closeWalkFinalStep],
          (s.queue.sum < 128 → exec i s = .next ended.arbitrate)
          ∧ (128 ≤ s.queue.sum → exec i s = .next waits.arbitrate))

/-! ## The exchanges of a spur -/

/-- POLL_FRAME_SENT, in the exchange that is sending, starts the wait for a reply; REPLY_TIMEOUT, REPLY_CHARACTER_GAP
and REPLY_ABORTED, in the exchange that waits, end it in a miss, counted unless the head was removed. After the end of
an exchange the next poll is of the head that R163 to R165 name, with the oldest four items of an active head and none
of another, or of none where no head is enrolled, laid out as R184 gives it. A head's pending-since moment is set in the
event in which it becomes due, kept while it stays due, and cleared else; the exchange keeps the moment the head had
when it was polled. That the moment is the event's number, and that the exchange keeps it, is the model's reading
(DEDUCED, log 8). That a head enrolled during a round is polled in that round is the model's choice (DESIGN CHOICE,
log 36), as are no IDENT placed by the miss that makes a head SILENT (DESIGN CHOICE, log 35) and P and Q of 0 with the
patterns OFF and STEADY (DESIGN CHOICE, log 13). That a row out of its phase has no effect is the model's reading
(DEDUCED, log 22); REPLY_TIMEOUT moves the model's clock to the timeout (DESIGN CHOICE, log 2). -/
def Obligations.ExchangeResult : Prop :=
  (∀ (a : Fin 32) (items : List CmdItem),
    let body := items.flatMap itemSpelled
    pollFrame a items = sealed 0x3C ([BitVec.ofNat 8 a.val, BitVec.ofNat 8 body.length] ++ body))
  ∧ ∀ (s : State) (sp : Fin 4), TablesCanonical s →
    let p := s.spurs[sp]
    (p.exchange = none → ∀ bytes : List RxByte,
      exec (.pollFrameSent sp) s = .next (counted s).arbitrate
      ∧ exec (.replyTimeout sp) s = .next (counted s).arbitrate
      ∧ exec (.replyCharacterGap sp bytes) s = .next (counted s).arbitrate
      ∧ exec (.replyAborted sp bytes) s = .next (counted s).arbitrate
      ∧ exec (.spurReply sp bytes) s = .next (counted s).arbitrate)
    ∧ (∀ e, p.exchange = some e →
      (e.phase = .sending → exec (.pollFrameSent sp) s = .next (State.arbitrate (withSpur (counted s) sp { p with
          txFifo := [],
          exchange := some { e with phase := .awaiting, timeoutAt := some (s.now + s.control.replyTimeout) } })))
      ∧ (e.phase ≠ .sending → exec (.pollFrameSent sp) s = .next (counted s).arbitrate)
      ∧ (e.phase = .awaiting → ∀ bytes : List RxByte,
          let u := State.conclude (if e.removed = true then counted s else missed (counted s) sp e.address) sp
          exec (.replyCharacterGap sp bytes) s = .next u.arbitrate
          ∧ exec (.replyAborted sp bytes) s = .next u.arbitrate)
      ∧ (e.phase ≠ .awaiting → ∀ bytes : List RxByte,
          exec (.replyCharacterGap sp bytes) s = .next (counted s).arbitrate
          ∧ exec (.replyAborted sp bytes) s = .next (counted s).arbitrate
          ∧ exec (.spurReply sp bytes) s = .next (counted s).arbitrate)
      ∧ (e.phase = .awaiting → ∀ m, e.timeoutAt = some m →
          exec (.replyTimeout sp) s = .next (State.conclude
            (if e.removed = true then timed s m else missed (timed s m) sp e.address) sp).arbitrate)
      ∧ (e.timeoutAt = none → exec (.replyTimeout sp) s = .next (counted s).arbitrate)
      ∧ s.conclude sp = (exchanged s sp e.address).beginPoll sp)
    ∧ (∀ a q, PollsNext p a q → ∀ h, s.head? sp a = some h →
        s.beginPoll sp = (withSpur s sp { q with
          exchange := some ⟨a, .sending, p.rate, none, false, [], h.pendingSince⟩, txFifo := pollFrame a (load h) }).putHead sp a
            h.afterPoll)
    ∧ ((∃ a q, PollsNext p a q) ↔ ∃ a, s.head? sp a ≠ none)
    ∧ (∀ a q, PollsNext p a q → s.head? sp a ≠ none)
    ∧ ((∀ a, s.head? sp a = none) → s.beginPoll sp = withSpur s sp { p with round := none, exchange := none })
    ∧ ∀ (a : Fin 32) (h : Head),
      let active := h.state = .identifying ∨ h.state = .online
      let due := active ∧ (h.items ≠ [] ∨ h.more = true ∨ h.identOwed = true)
      let dated := fun m : Option Nat =>
        withSpur s sp { p with heads := Table.put a.val { h with pendingSince := m } p.heads }
      (due → s.putHead sp a h = dated (some (h.pendingSince.getD s.eventNo))) ∧ (¬due → s.putHead sp a h = dated none)

/-- SPUR_REPLY: a reply that cannot be read is a miss; one of a removed or MISMATCHED head is discarded; a good reply
clears the misses, takes the more flag, brings a SILENT head back to IDENTIFYING with an IDENT, and holds the items
that are not malformed; with the more flag set the head has the pending-since moment it was polled with (R164). That the items of a good reply are held and handed on as commands of their own is the model's
reading (DEDUCED, log 7). A reply is read where no byte carries a status, the CRC and the polled address are right and
at most four items fill a body of at most 44 bytes; that bytes behind it are not read is the model's choice (DESIGN
CHOICE, log 15), as is ignoring the upper bits of a door byte (DESIGN CHOICE, log 16). -/
def Obligations.SpurReplyResult : Prop :=
  (∀ (s : State) (sp : Fin 4) (e : Exchange) (bytes : List RxByte), (s.spurs[sp]).exchange = some e →
    e.phase = .awaiting →
    (readReply e.address bytes = none → exec (.spurReply sp bytes) s = exec (.replyCharacterGap sp bytes) s)
    ∧ ∀ more items, readReply e.address bytes = some (more, items) →
      (e.removed = true ∨ s.head? sp e.address = none → exec (.spurReply sp bytes) s = .next ((counted s).conclude sp).arbitrate)
      ∧ (e.removed = false → ∀ h, s.head? sp e.address = some h →
        (h.state = .mismatched → exec (.spurReply sp bytes) s = .next ((counted s).conclude sp).arbitrate)
        ∧ (h.state ≠ .mismatched →
          let since := if more = true ∧ e.since ≠ none then e.since else h.pendingSince
          let h' := if h.state = .silent
            then Head.place { h with state := .identifying, misses := 0, more := more, pendingSince := since } .ident
            else { h with misses := 0, more := more, pendingSince := since }
          let good := items.filter (fun it => !malformed h.enrolment it)
          let u := (withExchange (counted s) sp { e with phase := .taking, timeoutAt := none, items := good }).putHead sp
            e.address h'
          exec (.spurReply sp bytes) s = .next (if good = [] then u.conclude sp else u).arbitrate)))
  ∧ (∀ (polled : Fin 32) (bytes : List RxByte) (more : Bool) (items : List ReplyItem),
    readReply polled bytes = some (more, items) ↔ ∃ (address flags len hi lo : Byte) (body rest : List Byte),
      bytes.map RxByte.value = [0xC3, address, flags, len] ++ body ++ [hi, lo] ++ rest
      ∧ body.length = len.toNat ∧ body.length ≤ 44 ∧ address.toNat = polled.val
      ∧ crc16 ([address, flags, len] ++ body) = hi ++ lo
      ∧ (∀ b ∈ bytes.take (body.length + 6), b.framing = false ∧ b.parity = false ∧ b.overrun = false)
      ∧ more = flags.getLsbD 0 ∧ items.length ≤ 4 ∧ SpellsBody items body)
  ∧ ∀ (k : Nat) (n : Fin 64) (z : Fin 16) (r : Byte) (x : Serial) (d : Door) (dir : Direction) (o : BoltOutcome)
      (ty : HeadType) (doors : List (Door × Bolt)),
    (malformed (.lock k) (.tap r x) = true ↔ badSerial x ∨ 7 < r.toNat)
    ∧ (malformed (.cabin n) (.tap r x) = true ↔ badSerial x ∨ 1 < r.toNat)
    ∧ (∀ e ∈ [Enrolment.kiosk z, .exit], (malformed e (.tap r x) = true ↔ badSerial x ∨ r ≠ 0)
        ∧ malformed e (.door r d) = true ∧ malformed e (.bolt r dir o) = true)
    ∧ (∀ it ∈ [ReplyItem.door r d, .bolt r dir o], (malformed (.lock k) it = true ↔ 7 < r.toNat)
        ∧ (malformed (.cabin n) it = true ↔ r ≠ 0))
    ∧ ∀ e, malformed e (.status ty doors) = false

/-- Items join a command list at the tail or in the place of the unsent item they replace: a SHOW of the same reader, an
ACTUATE of the same door, a LAMP, an IDENT or a GATE; an item placed at an enrolled head joins that head's list, and one
placed at an UNENROLLED address changes nothing; a poll carries the oldest four; a movement handed over is attempt 1 with its ACTUATE placed, and its end withdraws an unsent ACTUATE: that item
leaves the list, the items behind it close up, and an owed IDENT is placed at the tail. That another item finding 16
items takes the place of an IDENT among them, the IDENT then owed, and with no IDENT among them joins not, is the model's
choice (DESIGN CHOICE, log 9). -/
def Obligations.CommandListRules : Prop :=
  (∀ (h : Head) (it : CmdItem),
    ((∀ x ∈ h.items, it.replaces x = false) → h.items.length < 16 → h.place it = { h with items := h.items ++ [it] })
    ∧ (∀ a b x, h.items = a ++ x :: b → it.replaces x = true → (∀ y ∈ a ++ b, it.replaces y = false) →
        h.place it = { h with items := a ++ it :: b })
    ∧ ((∀ x ∈ h.items, it.replaces x = false) → 16 ≤ h.items.length → it = .ident →
        h.place it = { h with identOwed := true })
    ∧ ((∀ x ∈ h.items, it.replaces x = false) → 16 ≤ h.items.length → it ≠ .ident →
        (.ident ∉ h.items → h.place it = h)
        ∧ ∀ a b, h.items = a ++ .ident :: b → .ident ∉ a →
          h.place it = { h with items := a ++ b ++ [it], identOwed := true }))
  ∧ (∀ it x : CmdItem, it.replaces x = true ↔
      (∃ r v w, it = .showAt r v ∧ x = .showAt r w) ∨ (∃ d i j, it = .actuate d i ∧ x = .actuate d j)
      ∨ (∃ v w, it = .lamp v ∧ x = .lamp w) ∨ (it = .ident ∧ x = .ident) ∨ (it = .gate ∧ x = .gate))
  ∧ (∀ (s : State) (sp : Fin 4) (a : Fin 32) (it : CmdItem) (d : Fin 8),
    (∀ h, s.head? sp a = some h → s.place sp a it = s.putHead sp a (h.place it)
      ∧ s.modHead sp a (·.withdraw d) = s.putHead sp a (h.withdraw d))
    ∧ (s.head? sp a = none → s.place sp a it = s ∧ s.modHead sp a (·.withdraw d) = s))
  ∧ (∀ h : Head, (h.state = .identifying ∨ h.state = .online → h.carried = h.items.take 4)
      ∧ (h.state = .silent ∨ h.state = .mismatched → h.carried = [] ∧ h.afterPoll = h)
      ∧ (h.carried ≠ [] → h.identOwed = false → h.afterPoll = { h with items := h.items.drop 4 })
      ∧ (h.carried ≠ [] → h.identOwed = true → h.items.length ≤ 16 →
          h.afterPoll = { h with items := h.items.drop 4 ++ [.ident], identOwed := false }))
  ∧ (∀ (h : Head) (d : Fin 8),
    ((∀ dir, CmdItem.actuate d dir ∉ h.items) → h.withdraw d = h)
    ∧ ∀ a b dir, h.items = a ++ .actuate d dir :: b → (∀ dir', CmdItem.actuate d dir' ∉ a ++ b) →
        (h.identOwed = false → h.withdraw d = { h with items := a ++ b })
        ∧ (h.identOwed = true → h.items.length ≤ 16 →
            h.withdraw d = { h with items := a ++ b ++ [.ident], identOwed := false }))
  ∧ ∀ (s : State) (dir : Direction) (p : Purpose) (x y : Option Serial) (sl : Bool),
    (∀ n l, s.locker? n = some l →
      s.handOver (.locker n) dir p x y sl
        = (withLocker s n { l with action := some (newAction s dir p x y sl) }).place (lockerSpur n) (lockerAddress n)
            (.actuate (lockerDoor n) dir)
      ∧ s.endAction (.locker n)
        = withLocker (s.modHead (lockerSpur n) (lockerAddress n) (·.withdraw (lockerDoor n))) n { l with action := none })
    ∧ ∀ n c, s.cabin? n = some c →
      s.handOver (.cabin n) dir p x y sl
        = (withCabin s n { c with action := some (newAction s dir p x y sl) }).place c.spur c.address (.actuate 0 dir)
      ∧ s.endAction (.cabin n) = withCabin (s.modHead c.spur c.address (·.withdraw 0)) n { c with action := none }

/-! ## Taps -/

/-- The common front of every tap: a head not ONLINE or of another type has its tap discarded; then the day state, the
watches, presence, barring and evacuation answer in that order. A tap at a LOCK head whose locker is ABSENT is discarded
too. That a tap naming a head of another type is discarded is the model's reading (DEDUCED, log 17), as is RED CLOSED
for a band that the close walk has removed, whatever its class (DEDUCED, log 31). The watches change the WATCH_HIT latch
and the Watch List alone: each that fires raises the sequence number by 1 modulo 8, the last one's notice stands, and
those that fired are disarmed. -/
def Obligations.FrontAnswers : Prop :=
  ∀ (s : State) (t : Tap) (e : Enrolment),
    (ReaderFits t e → (∀ h, s.head? t.spur t.address = some h → h.state ≠ .online ∨ h.enrolment.type ≠ e.type) →
      exec (tapRow t e) s = .next (handed (counted s) (counted s) t.spur t.address (tapItem t)).arbitrate)
    ∧ (∀ k, e = .lock k → s.locker? (lockerAt t.spur t.address t.reader) = none →
      exec (tapRow t e) s = .next (handed (counted s) (counted s) t.spur t.address (tapItem t)).arbitrate)
    ∧ (Arrives s t e →
      let found := s.findBand t.serial
      let p := found.isSome
      let shut := s.clock.day = .closed ∨ s.clock.day = .closing ∧ e ≠ .exit
        ∧ ∀ k b, found = some (k, b) → (s.classes[b.cls]).staff = false
      let held := ∃ i w, Fires s t e p i w ∧ w.mode = .hold
      (shut → Resolves s t e (shown (counted s) t (.red .closed 0)))
      ∧ (¬shut → held → Resolves s t e (shown (watched s t e p) t (.red .staff 0)))
      ∧ (¬shut → ¬held → found = none → Resolves s t e (shown (watched s t e p) t (.red .unknownBand 0)))
      ∧ (¬shut → ¬held → ∀ k b, found = some (k, b) →
          (b.state = .barred → e ≠ .exit → Resolves s t e (shown (watched s t e p) t (.red .barred 0)))
          ∧ (b.state ≠ .barred → s.clock.evacuation = true → e.type = .kiosk ∨ e.type = .cabin →
              Resolves s t e (shown (watched s t e p) t (.red .evacuation 0)))))
    ∧ ∀ p : Bool,
      ((∀ i w, ¬Fires s t e p i w) → watched s t e p = counted s)
      ∧ (∃ l ws, watched s t e p
          = { counted s with alerts := s.alerts.set AlertClass.watchHit.index.val l, watches := ws })
      ∧ (∀ fired : List (Fin 8), fired ≠ [] → fired.Nodup → (∀ i, i ∈ fired ↔ ∃ w, Fires s t e p i w) →
          ((watched s t e p).alerts[AlertClass.watchHit.index]).sequence
            = ((s.alerts[AlertClass.watchHit.index]).sequence + fired.length) % 8)
      ∧ (∀ i w, Fires s t e p i w → (watched s t e p).watches[i] = some { w with armed := false })
      ∧ (∀ i, (∀ w, ¬Fires s t e p i w) → (watched s t e p).watches[i] = s.watches[i])
      ∧ (∀ i w, Fires s t e p i w → (∀ j, i < j → ∀ v, ¬Fires s t e p j v) →
          ((watched s t e p).alerts[AlertClass.watchHit.index]).notice = some ⟨s.clock.siteMinute,
            (match w.target, tapLocker t e with
              | .range _ _, some n => .locker n
              | _, _ => .band t.serial), .entry i⟩)

/-- A tap at a VACANT or RESERVED locker with no action in flight: the door, the claim checks and the place decide; a
claim names its holder and throws the bolt, and a reservation is claimed by its holder alone. -/
def Obligations.ClaimTapResult : Prop :=
  ∀ (s : State) (t : Tap) (k slot : Nat) (b : Band) (l : Locker), Passes s t (.lock k) slot b →
    let n := lockerAt t.spur t.address t.reader
    let w := watched s t (.lock k) true
    let z := s.zones[l.zone]
    s.locker? n = some l → l.action = none →
    (l.state = .vacant →
      if l.door = .opened then Shows s t (.lock k) (.red .doorOpen 0)
      else if l.door = .unknown then Shows s t (.lock k) .amber
      else if s.clock.evacuation = true then Shows s t (.lock k) (.red .evacuation 0)
      else if z.intake = 0 ∨ z.intake = 1 ∧ (s.classes[b.cls]).staff = false
        then Shows s t (.lock k) (.red .zoneShut 0)
      else if z.intake = 2 then Shows s t (.lock k) (.red .useKiosk 0)
      else if z.classMask.getLsbD b.cls.val = false then Shows s t (.lock k) (.red .classExcluded 0)
      else if min 2 (max 1 (s.classes[b.cls]).holdLimit) ≤ b.holdings.length
        then Shows s t (.lock k) (.red .limit 0)
      else if 128 ≤ s.queue.sum then Shows s t (.lock k) .amber
      else Resolves s t (.lock k)
        ((given (withLocker (reserved w) n { l with holder := some b.serial }) t slot
          { b with holdings := b.holdings ++ [n] }).handOver (.locker n) .throw .claim (some b.serial) none true))
    ∧ (l.state = .reserved →
      if l.holder ≠ some b.serial then Resolves s t (.lock k) (denied w t slot b)
      else if s.clock.evacuation = true then Shows s t (.lock k) (.red .evacuation 0)
      else if l.door ≠ .shut then Shows s t (.lock k) (.red .doorOpen 0)
      else Resolves s t (.lock k)
        ((given (withLocker w n { l with reserveDeadline := none }) t slot b).handOver (.locker n) .throw .claim
          (some b.serial) none true))

/-- A tap at a locker in movement or VERIFY waits; at a LOCKED, RELEASED, INSPECT, JAMMED or OUT_OF_SERVICE one the
relation of the band to the holder decides, a movement asking for one place. -/
def Obligations.LockerTapResult : Prop :=
  ∀ (s : State) (t : Tap) (k slot : Nat) (b : Band) (l : Locker), Passes s t (.lock k) slot b →
    let n := lockerAt t.spur t.address t.reader
    let w := watched s t (.lock k) true
    let holds := l.holder = some b.serial
    let staff := (s.classes[b.cls]).staff = true
    let other := ¬holds ∧ ¬Mate s b l ∧ ¬staff
    let moves := fun (d : Direction) (p : Purpose) =>
      if 128 ≤ s.queue.sum then Shows s t (.lock k) .amber
      else Resolves s t (.lock k) ((given (reserved w) t slot b).handOver (.locker n) d p l.holder
        (if l.holder = some b.serial then none else some b.serial) true)
    s.locker? n = some l →
    (l.state = .verify ∨ l.action ≠ none → Shows s t (.lock k) .amber)
    ∧ (l.action = none →
      (l.state = .locked → (holds ∨ Mate s b l → moves .retract .opening)
        ∧ (¬holds → ¬Mate s b l → staff → moves .retract .staffOpen)
        ∧ (other → Resolves s t (.lock k) (denied w t slot b)))
      ∧ (l.state = .released → (other → Resolves s t (.lock k) (denied w t slot b))
        ∧ (¬other → l.door = .shut → moves .throw .relock)
        ∧ (¬other → l.door = .unknown → Shows s t (.lock k) .amber)
        ∧ (¬other → ¬holds → l.door = .opened → Shows s t (.lock k) (.red .doorOpen 0))
        ∧ (holds → l.door = .opened → if 128 ≤ s.queue.sum then Shows s t (.lock k) .amber
            else Resolves s t (.lock k)
              (given (withLocker (written w (.giveUp n b.serial)) n { l with state := .vacant, holder := none }) t slot
                { b with holdings := b.holdings.erase n })))
      ∧ (l.state = .inspect ∨ l.state = .jammed ∨ l.state = .outOfService →
        (staff → moves .retract .staffOpen)
        ∧ (¬staff → Shows s t (.lock k) (.red (if l.state = .inspect then .inspect else .outOfService) 0))))

/-- A tap at a kiosk: intake and class mask, an existing reservation shown again, the hold limit, the search, two places;
an allocation reserves the chosen locker and writes RESERVE. -/
def Obligations.KioskTapResult : Prop :=
  ∀ (s : State) (t : Tap) (z : Fin 16) (slot : Nat) (b : Band), Passes s t (.kiosk z) slot b → TablesCanonical s →
    let e := Enrolment.kiosk z
    let w := watched s t e true
    let zone := s.zones[z]
    let old := b.holdings.find? (fun n => (s.locker? n).any (fun l => l.state == .reserved && l.zone == z))
    if zone.intake = 0 ∨ zone.intake = 1 ∧ (s.classes[b.cls]).staff = false then Shows s t e (.red .zoneShut 0)
    else if zone.classMask.getLsbD b.cls.val = false then Shows s t e (.red .classExcluded 0)
    else (∀ n, old = some n → Resolves s t e (shown (withBand w slot { b with strikes := 0 }) t (.number n.val)))
      ∧ (old = none →
        if min 2 (max 1 (s.classes[b.cls]).holdLimit) ≤ b.holdings.length then Shows s t e (.red .limit 0)
        else ((∀ n, ¬Offered s z n) → Shows s t e (.red .noFree 0))
          ∧ ∀ n l, Chosen s z n → s.locker? n = some l →
            (126 < s.queue.sum → Shows s t e .amber)
            ∧ (s.queue.sum ≤ 126 →
              let u := withLocker (withBand (reserved (written w (.reserve n b.serial zone.window))) slot
                { b with holdings := b.holdings ++ [n], strikes := 0 }) n
                { l with state := .reserved, holder := some b.serial,
                         reserveDeadline := some (s.now + zone.window * 1000) }
              Resolves s t e (shown { u with
                rotors := if zone.mode = .rotate then s.rotors.set z.val n else s.rotors } t (.number n.val))))

/-- A tap at the outside reader of a cabin, by the five steps of R103. -/
def Obligations.OutsideTapResult : Prop :=
  ∀ (s : State) (t : Tap) (n : Fin 64) (slot : Nat) (b : Band) (c : Cabin), Passes s t (.cabin n) slot b →
    TablesCanonical s → t.reader = 0 → s.cabin? n = some c →
    let e := Enrolment.cabin n
    let w := watched s t e true
    let q := s.classQueues[c.cls]
    let ticket := if 99 ≤ s.tickets[c.cls] then 1 else s.tickets[c.cls] + 1
    let joined := shown
      { withBand w slot { b with queueLink := some ⟨c.cls, ticket⟩ } with
          classQueues := s.classQueues.set c.cls.val (q ++ [⟨b.serial, ticket, s.clock.siteMinute⟩]),
          tickets := s.tickets.set c.cls.val ticket } t (.ticket ticket)
    if c.state = .disabled then Shows s t e (.red .outOfService 0)
    else if (s.classes[b.cls]).cabinMask.getLsbD c.cls.val = false then Shows s t e (.red .classExcluded 0)
    else (∀ x, b.cabinLink = some x →
        if x = ⟨n, .called⟩ then Resolves s t e (admitted w n c slot b)
        else if x = ⟨n, .occupant⟩ ∧ c.state = .admitting then Shows s t e .amber
        else Shows s t e (.red .inCabin 0))
      ∧ (b.cabinLink = none →
        if c.state = .free ∧ (q.head?.all (fun x => x.serial == b.serial)) = true then
          if 128 ≤ s.queue.sum then Shows s t e .amber
          else Resolves s t e (admitted { reserved w with
            classQueues := match b.queueLink with
              | some x => s.classQueues.set x.cls.val ((s.classQueues[x.cls]).filter (fun y => y.serial != b.serial))
              | none => s.classQueues } n c slot b)
        else (∀ x, b.queueLink = some x → Shows s t e (if x.cls = c.cls then .ticket x.ticket else .red .queuedElsewhere 0))
          ∧ (b.queueLink = none →
            if 16 ≤ q.length then Shows s t e (.red .queueFull 0)
            else ((∀ m, ¬Callable s c.cls m) → Resolves s t e joined)
              ∧ ∀ m, Callable s c.cls m → (∀ m', Callable s c.cls m' → m ≤ m') → Resolves s t e (joined.callStep m)))

/-- A tap at the inside reader of a cabin, by the table of R112. That a granted extension places LAMP before the SHOW of
GREEN is the model's choice (DESIGN CHOICE, log 32). -/
def Obligations.InsideTapResult : Prop :=
  ∀ (s : State) (t : Tap) (n : Fin 64) (slot : Nat) (b : Band) (c : Cabin), Passes s t (.cabin n) slot b →
    t.reader = 1 → s.cabin? n = some c →
    let e := Enrolment.cabin n
    let w := watched s t e true
    if c.state = .admitting then Shows s t e .amber
    else if c.state ≠ .occupied ∧ c.state ≠ .overtime then Shows s t e (.red .outOfService 0)
    else if c.band ≠ some b.serial then Resolves s t e (denied w t slot b)
    else if c.state = .overtime then Shows s t e (.red .overtime 0)
    else if (s.classes[b.cls]).extend = false then Shows s t e (.red .noExtend 0)
    else if c.latched.maxExtensions ≤ c.extensions then Shows s t e (.red .limit 0)
    else Resolves s t e (given ((withCabin w n
      { counting c s.now c.latched.extension with extensions := c.extensions + 1 }).followLamp n) t slot b)

/-- A tap at the exit: in an evacuation the gate opens whatever happens; else a moving locker waits, a strict class with
a LOCKED locker is held, nothing due lets the band out, and an amount due sends it to pay. -/
def Obligations.ExitTapResult : Prop :=
  ∀ (s : State) (t : Tap) (slot : Nat) (b : Band), Passes s t .exit slot b →
    let w := watched s t .exit true
    let f := s.tallyOf b
    let moving := b.holdings.any (fun n => (s.locker? n).any (fun l => l.action.isSome))
    let locked := b.holdings.any (fun n => (s.locker? n).any (fun l => l.state == .locked))
    if s.clock.evacuation = true then
      if 128 ≤ s.queue.sum then Resolves s t .exit ((shown w t .amber).place t.spur t.address .gate)
      else Resolves s t .exit (leaves (written w (.exit f true)) t slot)
    else if moving = true then Shows s t .exit .amber
    else if (s.classes[b.cls]).strictExit = true ∧ locked = true then Shows s t .exit (.red .lockerHeld 0)
    else if 128 ≤ s.queue.sum then Shows s t .exit .amber
    else if f.due = 0 then Resolves s t .exit (leaves (written w (.exit f false)) t slot)
    else Resolves s t .exit (shown (withBand (written w (.exitDue { f with credit := b.credit })) slot
      { b with frozen := some ⟨f.exitMinute, f.exitMinute + s.control.tallyHold⟩,
               state := if b.state = .barred then .barred else .due }) t (.red .payDue (min f.due 9999)))

/-- The charge in its eight stages. -/
def Obligations.ChargeComputed : Prop :=
  ∀ (s : State) (b : Band),
    let f := s.tallyOf b
    let d := s.classes[b.cls]
    let t := (s.tariffs[b.tariffSet])[b.cls]
    let stay := f.exitMinute - b.entryMinute
    let late := if stay ≤ d.allowance + d.grace then 0 else stay - d.allowance
    (f.serial = b.serial ∧ f.set = b.tariffSet ∧ f.cls = b.cls ∧ f.fees = b.fees)
    ∧ (b.frozen = none → f.exitMinute = s.clock.siteMinute)
    ∧ (∀ x, b.frozen = some x → f.exitMinute = if s.clock.siteMinute ≤ x.deadline then x.minute else s.clock.siteMinute)
    ∧ f.stay = stay
    ∧ (1 ≤ t.step → ∃ u, late ≤ u * t.step ∧ u * t.step < late + t.step ∧ f.charge = min (u * t.price) t.cap)
    ∧ f.total = min (f.charge + b.fees) 65535 ∧ f.credit = min f.total b.credit ∧ f.due = f.total - b.credit

/-! ## Doors, bolts and the status of heads -/

/-- DOOR reports: the field is set; then a movement fails its attempt, a forced door is told, a RELEASED door that shuts
relocks by its zone, and a cabin's phase follows its door. That an OPEN report fails the attempt of a RESET in flight at
an EVACUATED cabin with the evacuation flag set too is the model's choice (DESIGN CHOICE, log 37). -/
def Obligations.DoorReportsResult : Prop :=
  ∀ (s : State) (sp : Fin 4) (a : Fin 32) (d : Door),
    (∀ (k : Nat) (i : Fin 8), Reports s sp a (.lock k) →
      let n := lockerAt sp a i
      let row := Instr.lockerDoorReport sp a i d
      let it := ReplyItem.door (BitVec.ofNat 8 i.val) d
      (s.locker? n = none → Leads row s (counted s) sp a it)
      ∧ ∀ l, s.locker? n = some l →
        let u := withLocker (counted s) n { l with door := d }
        if l.action ≠ none then
          if l.action.any (fun x => x.direction == .throw) = true ∧ d = .opened
          then Leads row s (u.failAttempt (.locker n)) sp a it
          else Leads row s u sp a it
        else if l.door = d then Leads row s u sp a it
        else if (l.state = .locked ∨ l.state = .inspect) ∧ d = .opened
          then Leads row s (noticed u .forcedDoor (.locker n) (.lockerState l.state)) sp a it
        else if l.state = .released ∧ d = .shut ∧ (s.zones[l.zone]).autoRelock = true ∧ s.queue.sum < 128
          then Leads row s ((reserved u).handOver (.locker n) .throw .relock l.holder none true) sp a it
        else Leads row s u sp a it)
    ∧ (∀ n : Fin 64, Reports s sp a (.cabin n) →
      let row := Instr.cabinDoorReport sp a d
      let it := ReplyItem.door 0 d
      (s.cabin? n = none → Leads row s (counted s) sp a it)
      ∧ ∀ c, s.cabin? n = some c →
        let u := withCabin (counted s) n { c with door := d }
        let running := c.state = .occupied ∨ c.state = .overtime
        if running ∧ c.phase = .outside ∧ c.door = .opened ∧ d = .shut then
          Leads row s ((withCabin (counted s) n
            { c with door := d, phase := .inside, entered := true, entryDeadline := none }).handOver (.cabin n) .throw
              .secure none none false) sp a it
        else if running ∧ c.phase = .inside ∧ c.door ≠ .opened ∧ d = .opened then
          Leads row s ((withCabin (if c.action = none then u else u.endAction (.cabin n)) n
            { halted { c with door := d } s.now with state := .vacating, action := none }).followLamp n) sp a it
        else if c.state = .vacating ∧ c.action = none ∧ c.door ≠ .shut ∧ d = .shut then
          Leads row s (u.handOver (.cabin n) .throw .reset none none false) sp a it
        else if c.action.any (fun x => x.direction == .throw) = true ∧ d = .opened then
          Leads row s (u.failAttempt (.cabin n)) sp a it
        else Leads row s u sp a it)

/-- BOLT_RESULT sets the bolt field, and completes the action, fails its attempt or changes nothing further;
ATTEMPT_DEADLINE fails it with the bolt UNKNOWN. A failed attempt is tried again up to the retries, then finally
fails. An attempt that starts keeps the record with its deadline one actuation timeout from now, and places ACTUATE at
the door's head. The row moves the model's clock to the deadline (log 2). -/
def Obligations.BoltResults : Prop :=
  ∀ s : State,
    (∀ (sp : Fin 4) (a : Fin 32) (i : Fin 8) (e : Enrolment) (d : DoorId) (dir : Direction) (o : BoltOutcome),
      Reports s sp a e → (∃ k, e = .lock k ∧ d = .locker (lockerAt sp a i)) ∨ (∃ n, e = .cabin n ∧ i = 0 ∧ d = .cabin n) →
      let row := Instr.boltResult sp a i dir o
      let it := ReplyItem.bolt (BitVec.ofNat 8 i.val) dir o
      let bolt := match o, dir with
        | .failed x, _ => x
        | .done, .throw => .thrown
        | .done, .retract => .retracted
      let u := bolted (counted s) d bolt
      (s.action? d = none → Leads row s u sp a it)
      ∧ ∀ x, s.action? d = some x →
        if x.direction ≠ dir then Leads row s u sp a it
        else if o = .done ∧ ¬(dir = .throw ∧ s.doorField d = .opened) then Leads row s (u.complete d x) sp a it
        else Leads row s (u.failAttempt d) sp a it)
    ∧ (∀ d : DoorId, (s.action? d = none → exec (.attemptDeadline d) s = .next (counted s).arbitrate)
      ∧ ∀ x, s.action? d = some x → exec (.attemptDeadline d) s
          = .next ((bolted (timed s x.deadline) d .unknown).failAttempt d).arbitrate)
    ∧ (∀ (d : DoorId) (x : Action), s.action? d = some x →
      s.failAttempt d = if x.attempt < s.control.retries + 1 then s.startAttempt d { x with attempt := x.attempt + 1 }
        else s.finalFailure d x)
    ∧ ∀ x : Action,
      let y := { x with deadline := s.now + s.control.actuation * 100 }
      (∀ n l, s.locker? n = some l → s.startAttempt (.locker n) x
        = (withLocker s n { l with action := some y }).place (lockerSpur n) (lockerAddress n)
            (.actuate (lockerDoor n) x.direction))
      ∧ ∀ n c, s.cabin? n = some c → s.startAttempt (.cabin n) x
        = (withCabin s n { c with action := some y }).place c.spur c.address (.actuate 0 x.direction)

/-- The ends of a locker's action: its change of state by purpose, the claim fee, JAMMED at a final failure, and the
reserved place turned into its record. -/
def Obligations.LockerActionEnds : Prop :=
  ∀ (s : State) (n : Fin 1024) (l : Locker) (x : Action), s.locker? n = some l → l.action = some x → x.slot = true →
    0 < s.queue.reserved →
    let u := s.endAction (.locker n)
    let holder := if x.orphaned = true then none else x.holder
    let record := RecordBody.action x.purpose n holder x.requester x.orphaned
    let goes := fun st : LockerState => converted (withLocker u n { l with action := none, state := st }) record
    (x.orphaned = true → x.direction = .throw → s.complete (.locker n) x = converted
      (noticed (withLocker u n { l with action := none, state := .inspect, holder := none }) .inspect (.locker n)
        (.cause .orphaned)) record)
    ∧ (x.orphaned = true → x.direction = .retract → s.complete (.locker n) x = converted
      (withLocker u n { l with action := none, state := .vacant, holder := none }) record)
    ∧ (x.orphaned = false →
      (x.purpose = .claim → ∀ y slot b, l.holder = some y → Present s y slot b → s.complete (.locker n) x
        = withBand (goes .locked) slot { b with fees := min (b.fees + (s.zones[l.zone]).fee) 65535 })
      ∧ (x.purpose = .relock → s.complete (.locker n) x = goes .locked)
      ∧ (x.purpose = .opening → s.complete (.locker n) x = goes .released)
      ∧ (x.purpose = .staffOpen → s.complete (.locker n) x = goes (match l.state with
          | .locked => .released
          | .inspect => .vacant
          | .jammed => if l.holder = none then .vacant else .released
          | st => st)))
    ∧ s.finalFailure (.locker n) x = converted
        (noticed (withLocker u n { l with action := none, state := .jammed }) .jammed (.locker n) (.purpose x.purpose))
        (.failed (.locker n) holder x.requester x.purpose x.attempt x.orphaned)

/-- The ends of a cabin's action: an ADMIT begins the occupancy, a RESET of a VACATING cabin turns its place into
CABIN_OUT and frees it, a RESET of an EVACUATED or DISABLED cabin frees it, a final failure of an ADMIT or a RESET
disables the cabin; other ends change no state. That a cabin whose RESET ends under the evacuation flag becomes
EVACUATED, whatever its state, is the model's reading (DEDUCED, log 25); that the final failure of a RESET disables an
EVACUATED cabin with the flag set too is the model's choice (DESIGN CHOICE, log 37). -/
def Obligations.CabinActionEnds : Prop :=
  ∀ (s : State) (n : Fin 64) (c : Cabin) (x : Action), TablesCanonical s → s.cabin? n = some c → c.action = some x →
    let u := s.endAction (.cabin n)
    let c' := { c with action := none }
    let out := RecordBody.cabinOut n c.band (c.overtimeAt s.now) c.extensions false (!c.entered)
    let freed := { c' with band := none, ticket := none, slot := false, state := .free }
    let shutUp := fun (v : State) (p : Purpose) => noticed (withCabin v n
      { c' with band := none, ticket := none, slot := false, state := .disabled }) .jammed (.cabin n) (.purpose p)
    (x.purpose = .admission →
      (let v := (withCabin u n (counting { c' with
          state := .occupied, phase := .outside, entered := false, extensions := 0, overtime := 0,
          overtimeSince := none, ticket := none, entryDeadline := some (s.now + c.latched.callWindow * 1000) } s.now
            c.latched.allowance)).followLamp n
       s.complete (.cabin n) x = if s.queue.sum < 128 then written v (.cabinIn n c.band c.ticket) else v)
      ∧ (0 < s.queue.reserved → s.finalFailure (.cabin n) x
          = shutUp (unlinked (converted u (.failed (.cabin n) c.band none .admission x.attempt false)) c.band) .admission))
    ∧ (x.purpose = .reset →
      (c.state = .vacating → 0 < s.queue.reserved →
        (s.clock.evacuation = false →
          s.complete (.cabin n) x = (withCabin (unlinked (converted u out) c.band) n freed).callStep n)
        ∧ s.finalFailure (.cabin n) x = shutUp (unlinked (converted u out) c.band) .reset)
      ∧ (c.state = .evacuated ∨ c.state = .disabled →
        (s.clock.evacuation = false → s.complete (.cabin n) x = (withCabin u n freed).callStep n)
        ∧ (s.clock.evacuation = true → s.complete (.cabin n) x
            = (withCabin u n { freed with state := .evacuated }).handOver (.cabin n) .retract .evac none none false)
        ∧ s.finalFailure (.cabin n) x = shutUp u .reset))
    ∧ (x.purpose = .secure ∨ x.purpose = .evac → s.complete (.cabin n) x = u
        ∧ s.finalFailure (.cabin n) x = noticed u .jammed (.cabin n) (.purpose x.purpose))

/-- STATUS: one that matches the enrolment makes the head ONLINE and reports each door; any other makes it MISMATCHED.
A VERIFY locker is resolved by its holder and its bolt; a locker in another state takes its door report and its bolt
field; a cabin takes its door, its lamp and its status wait. What a cabin freed while the evacuation flag is set becomes
is the model's reading (DEDUCED, log 25), as is that a STATUS row of a head neither IDENTIFYING nor ONLINE has no effect
(DEDUCED, log 17). -/
def Obligations.StatusResult : Prop :=
  ∀ (s : State) (sp : Fin 4) (a : Fin 32) (ty : HeadType) (doors : List (Door × Bolt)),
    let row := Instr.status sp a ty doors
    let it := ReplyItem.status ty doors
    let online := (counted s).modHead sp a (fun h => { h with state := .online })
    (alive s sp → (∀ h, s.head? sp a = some h → h.state = .silent ∨ h.state = .mismatched) →
      Leads row s (counted s) sp a it)
    ∧ (∀ e, Reports s sp a e →
      (ty ≠ e.type ∨ doors.length ≠ e.doorCount → Leads row s
        (noticed ((counted s).modHead sp a (fun h => { h with state := .mismatched })) .headFault (.head sp a)
          (.headState .mismatched)) sp a it)
      ∧ (ty = e.type → doors.length = e.doorCount →
        (e.type = .kiosk ∨ e = .exit → Leads row s online sp a it)
        ∧ (∀ n d b, e = .cabin n → doors = [(d, b)] →
            Leads row s (((online.cabinDoor n d).placeLamp n).actOnWait n b) sp a it)
        ∧ (∀ k, e = .lock k → k ≤ 8 → Leads row s
            ((List.finRange 8).foldl (fun t i => match doors[i.val]? with
              | some d => t.lockerStatus (lockerAt sp a i) d
              | none => t) online) sp a it)))
    ∧ (∀ (n : Fin 1024) (l : Locker) (d : Door) (b : Bolt), s.locker? n = some l → l.state = .verify → l.action = none →
      let u := fun (st : LockerState) => withLocker s n { l with door := d, bolt := b, state := st }
      let v := fun (st : LockerState) => if d = .opened then noticed (u st) .forcedDoor (.locker n) (.lockerState st)
        else u st
      (l.holder ≠ none → b = .thrown → s.lockerStatus n (d, b) = v .locked)
      ∧ (l.holder ≠ none → b = .retracted → s.lockerStatus n (d, b) = u .released)
      ∧ (l.holder = none → b = .retracted → s.lockerStatus n (d, b) = u .vacant)
      ∧ (l.holder = none → b = .thrown → s.lockerStatus n (d, b) =
          (let w := noticed (u .inspect) .inspect (.locker n) (.cause .found)
           if d = .opened then noticed w .forcedDoor (.locker n) (.lockerState .inspect) else w))
      ∧ (b = .unknown → s.lockerStatus n (d, b) = noticed (u .jammed) .jammed (.locker n) .found))
    ∧ (∀ (n : Fin 1024) (l : Locker) (d : Door) (b : Bolt), s.locker? n = some l → l.state ≠ .verify →
      s.lockerStatus n (d, b) = bolted (doorTaken s n l d) (.locker n) b)
    ∧ ∀ (n : Fin 64) (c : Cabin) (b : Bolt), s.cabin? n = some c →
      let u := withCabin s n { c with statusWait := .nothing }
      (c.statusWait = .nothing → s.actOnWait n b = u)
      ∧ (c.statusWait = .reopen → s.clock.evacuation = false → b = .thrown → c.door = .shut → s.actOnWait n b
          = (withCabin s n { c with statusWait := .nothing, band := none, ticket := none, slot := false,
                                    state := .free }).callStep n)
      ∧ (c.statusWait = .reopen → s.clock.evacuation = false → b ≠ .thrown ∨ c.door ≠ .shut →
          s.actOnWait n b = u.handOver (.cabin n) .throw .reset none none false)
      ∧ (c.statusWait = .reopen → s.clock.evacuation = true → s.actOnWait n b
          = (withCabin s n { c with statusWait := .nothing, state := .evacuated }).handOver (.cabin n) .retract .evac
              none none false)
      ∧ (c.statusWait = .reset → c.action = none → (c.state = .vacating ∧ c.door ≠ .opened) ∨ c.state = .evacuated →
          s.actOnWait n b = u.handOver (.cabin n) .throw .reset none none false)
      ∧ (c.statusWait = .reset → c.action ≠ none ∨ (c.state = .vacating ∧ c.door = .opened) → s.actOnWait n b = u)

/-! ## Deadlines -/

/-- The deadlines of lockers and cabins: a reservation lapses, an entry not made sends the cabin to VACATING, the
warning and the expiry drive the lamp and the overtime, a call lapses; a cancelled deadline does nothing. The lamp is
STEADY in OCCUPIED above the latched warning, blinks at or below it and in OVERTIME, and is OFF elsewhere; LAMP is placed
when the pattern changes. The rows move the model's clock to the deadline (log 2); that the remaining seconds are those
left rounded up, and the overtime seconds those gone rounded down, is the model's choice (DESIGN CHOICE, log 23). -/
def Obligations.DeadlinesResult : Prop :=
  (∀ (c : Cabin) (now : Nat),
    let blink := Lamp.blink (c.latched.blink / 2) (c.latched.blink - c.latched.blink / 2)
    (c.state = .occupied → c.latched.warning < c.remainingAt now → c.pattern now = .steady)
    ∧ (c.state = .occupied → c.remainingAt now ≤ c.latched.warning → c.pattern now = blink)
    ∧ (c.state = .overtime → c.pattern now = blink)
    ∧ (c.state ≠ .occupied → c.state ≠ .overtime → c.pattern now = .off)
    ∧ (c.expiryAt = none → c.remainingAt now = c.remaining)
    ∧ (∀ m, c.expiryAt = some m → c.remainingAt now = (m - now + 999) / 1000)
    ∧ (c.overtimeSince = none → c.overtimeAt now = c.overtime)
    ∧ ∀ m, c.overtimeSince = some m → c.overtimeAt now = min ((now - m) / 1000) 65535)
  ∧ (∀ (s : State) (n : Fin 64), (s.cabin? n = none → s.placeLamp n = s ∧ s.followLamp n = s)
    ∧ ∀ c, s.cabin? n = some c →
      s.placeLamp n = (withCabin s n { c with lamp := c.pattern s.now }).place c.spur c.address (.lamp (c.pattern s.now))
      ∧ (c.pattern s.now = c.lamp → s.followLamp n = s)
      ∧ (c.pattern s.now ≠ c.lamp → s.followLamp n = s.placeLamp n))
  ∧ ∀ s : State, TablesCanonical s →
    (∀ n : Fin 1024, ((∀ l, s.locker? n = some l → l.reserveDeadline = none) →
        exec (.reserveDeadline n) s = .next (counted s).arbitrate)
      ∧ ∀ l m y slot b, s.locker? n = some l → l.state = .reserved → l.action = none → l.reserveDeadline = some m →
        l.holder = some y → Present s y slot b → 0 < s.queue.reserved →
        exec (.reserveDeadline n) s = .next (State.arbitrate (converted
          (withLocker (withBand (timed s m) slot { b with holdings := b.holdings.erase n }) n
            { l with state := .vacant, holder := none, reserveDeadline := none })
          (.reserveLapsed n (some y)))))
    ∧ ∀ n : Fin 64,
      (s.cabin? n = none → ∀ i ∈ [Instr.entryDeadline n, .warningPoint n, .occupancyExpiry n, .callDeadline n],
        exec i s = .next (counted s).arbitrate)
      ∧ ∀ c, s.cabin? n = some c →
        (c.entryDeadline = none → exec (.entryDeadline n) s = .next (counted s).arbitrate)
        ∧ (c.warningAt = none → exec (.warningPoint n) s = .next (counted s).arbitrate)
        ∧ (c.expiryAt = none → exec (.occupancyExpiry n) s = .next (counted s).arbitrate)
        ∧ (c.callDeadline = none → exec (.callDeadline n) s = .next (counted s).arbitrate)
        ∧ (∀ m, c.entryDeadline = some m → c.state = .occupied ∨ c.state = .overtime → c.phase = .outside →
          let u := (withCabin (timed s m) n { halted c (max s.now m) with state := .vacating }).followLamp n
          exec (.entryDeadline n) s = .next (if c.door = .opened then u
            else u.handOver (.cabin n) .throw .reset none none false).arbitrate)
        ∧ (∀ m, c.warningAt = some m → c.state = .occupied → exec (.warningPoint n) s
            = .next ((withCabin (timed s m) n { c with warningAt := none }).followLamp n).arbitrate)
        ∧ (∀ m, c.expiryAt = some m → c.state = .occupied → exec (.occupancyExpiry n) s
            = .next ((noticed (withCabin (timed s m) n { c with
                state := .overtime, remaining := 0, warningAt := none, expiryAt := none, overtime := 0,
                overtimeSince := some (max s.now m) }) .cabinOverstay (.cabin n) (.extensions c.extensions)).followLamp
                  n).arbitrate)
        ∧ (∀ m, c.callDeadline = some m → c.state = .called → 0 < s.queue.reserved → s.clock.evacuation = false →
          exec (.callDeadline n) s = .next (((withCabin
            (unlinked (converted (timed s m) (.callLapsed n c.band c.ticket)) c.band) n
            { c with callDeadline := none, band := none, ticket := none, slot := false, state := .free }).callStep
              n).arbitrate))
end

