-- ==== Sys2Proof/Laws/Bytes.lean ====
section
/-! SUPPORT. The byte layouts read back what they lay out: one lemma per field form. -/
namespace Sys2Proof

/-- The two bytes of a word are the word. -/
@[simp] theorem word16_bytes (w : BitVec 16) : word16 (w.extractLsb' 8 8) (w.extractLsb' 0 8) = w := by
  unfold word16
  ext i hi
  simp only [BitVec.getElem_append, BitVec.getElem_extractLsb']
  split
  · rw [Nat.zero_add]; rfl
  · rw [← Nat.add_sub_assoc (by omega), Nat.add_sub_cancel_left]; rfl

/-- The four bytes of a word are the word. -/
@[simp] theorem word32_bytes (w : BitVec 32) :
    word32 (w.extractLsb' 24 8) (w.extractLsb' 16 8) (w.extractLsb' 8 8) (w.extractLsb' 0 8) = w := by
  unfold word32
  ext i hi
  simp only [BitVec.getElem_append, BitVec.getElem_extractLsb']
  split
  · rw [Nat.zero_add]; rfl
  · split
    · rw [show 8 + (i - 8) = i by omega]; rfl
    · split
      · rw [show 16 + (i - 8 - 8) = i by omega]; rfl
      · rw [show 24 + (i - 8 - 8 - 8) = i by omega]; rfl

/-- The byte of an on/off field reads as that field. -/
@[simp] theorem readFlag_of (b : Bool) : readFlag (BitVec.ofNat 8 b.toNat) = some b := by cases b <;> decide

/-- A set of four bits behind four zeros reads as that set. -/
@[simp] theorem readNibble_of (w : BitVec 4) : readNibble (0#4 ++ w) = some w := by revert w; decide

/-- Three bits behind five zeros read as those bits. -/
@[simp] theorem readIntake_of (w : BitVec 3) : readIntake (0#5 ++ w) = some w := by revert w; decide

/-- The code of a mode reads as that mode. -/
@[simp] theorem readMode_code (m : ZoneMode) : readMode m.code = some m := by cases m <;> decide

/-- The byte of a line reads as that line. -/
@[simp] theorem readLine_lineByte (l : LineFunction × Bool) : readLine (lineByte l) = some l := by
  obtain ⟨f, b⟩ := l
  cases f <;> cases b <;> decide

/-- The code of a kind names that kind. -/
@[simp] theorem ofCode_code (k : FrameKind) : FrameKind.ofCode k.code = some k := by cases k <;> decide

/-- The bytes of a day schedule read as that schedule. -/
@[simp] theorem readPeriods_laid (ps : List (BitVec 16 × Byte)) :
    readPeriods (ps.flatMap (fun p => bytes16 p.1 ++ [p.2])) = some ps := by
  induction ps with
  | nil => rfl
  | cons p ps ih => simp [bytes16, readPeriods, word16_bytes]; simpa [bytes16] using ih

/-- A day schedule takes three bytes a period. -/
theorem laid_length (ps : List (BitVec 16 × Byte)) :
    (ps.flatMap (fun p => bytes16 p.1 ++ [p.2])).length = 3 * ps.length := by
  induction ps with
  | nil => rfl
  | cons p ps ih => simp [bytes16, List.flatMap_cons] at ih ⊢; omega

end Sys2Proof
end

