-- ==== Sys2Proof/Laws/Table.lean ====
section
/-! SUPPORT. What a read of a sparse table gives after each change, and that every change keeps the canonical form. -/
namespace Sys2Proof.Machine.Table

variable {α : Type}

/-! ## Reads after writes -/

/-- A read at the key written gives the value written. -/
@[simp] theorem get?_put_self (k : Nat) (x : α) (t : List (Nat × α)) : get? k (put k x t) = some x := by
  induction t with
  | nil => simp [put, get?]
  | cons e rest ih =>
    obtain ⟨j, y⟩ := e
    by_cases h1 : k < j
    · simp [put, get?, h1]
    · by_cases h2 : k = j
      · simp [put, get?, h2]
      · simp [put, get?, h1, h2, Ne.symm h2, ih]

/-- A read at another key is unchanged by a write. -/
theorem get?_put_ne {k j : Nat} (h : j ≠ k) (x : α) (t : List (Nat × α)) : get? j (put k x t) = get? j t := by
  induction t with
  | nil => simp [put, get?, Ne.symm h]
  | cons e rest ih =>
    obtain ⟨i, y⟩ := e
    by_cases h1 : k < i
    · simp [put, get?, h1, Ne.symm h]
    · by_cases h2 : k = i
      · subst h2; simp [put, get?, Ne.symm h]
      · simp [put, get?, h1, h2, ih]

/-- The later of two writes at one key stands. -/
@[simp] theorem put_put (k : Nat) (x y : α) (t : List (Nat × α)) : put k x (put k y t) = put k x t := by
  induction t with
  | nil => simp [put]
  | cons e rest ih =>
    obtain ⟨i, z⟩ := e
    by_cases h1 : k < i
    · simp [put, h1]
    · by_cases h2 : k = i
      · subst h2; simp [put]
      · simp [put, h1, h2, ih]

/-- A value read is an entry of the table. -/
theorem mem_of_get? {k : Nat} {x : α} {t : List (Nat × α)} (h : get? k t = some x) : (k, x) ∈ t := by
  induction t with
  | nil => simp [get?] at h
  | cons e rest ih =>
    obtain ⟨i, z⟩ := e
    by_cases h1 : i = k
    · subst h1; simp [get?] at h; simp [h]
    · simp [get?, h1] at h; simp [ih h]

/-- An entry of a written table is the one written or an old one. -/
theorem mem_put {k : Nat} {x : α} {t : List (Nat × α)} {e : Nat × α} (h : e ∈ put k x t) : e = (k, x) ∨ e ∈ t := by
  induction t with
  | nil => simp [put] at h; simp [h]
  | cons e' rest ih =>
    obtain ⟨i, z⟩ := e'
    by_cases h1 : k < i
    · simp [put, h1] at h; simpa using h
    · by_cases h2 : k = i
      · subst h2; simp [put] at h; rcases h with h | h <;> simp [h]
      · simp [put, h1, h2] at h
        rcases h with h | h
        · simp [h]
        · rcases ih h with h | h <;> simp [h]

/-- An entry of a table with a key dropped is an old one. -/
theorem mem_drop {k : Nat} {t : List (Nat × α)} {e : Nat × α} (h : e ∈ drop k t) : e ∈ t := by
  induction t with
  | nil => simp [drop] at h
  | cons e' rest ih =>
    obtain ⟨i, z⟩ := e'
    by_cases h1 : i = k
    · simp [drop, h1] at h; simp [h]
    · simp [drop, h1] at h
      rcases h with h | h
      · simp [h]
      · simp [ih h]

/-! ## The canonical form -/

/-- A canonical form from a bound is one from every lower bound. -/
theorem wfFrom_mono {lo lo' : Nat} {t : List (Nat × α)} (hl : lo' ≤ lo) (h : wfFrom lo t = true) :
    wfFrom lo' t = true := by
  cases t with
  | nil => rfl
  | cons e rest => simp [wfFrom] at h ⊢; exact ⟨by omega, h.2⟩

/-- A write at a key no lower than the bound keeps the form. -/
theorem wfFrom_put {lo k : Nat} (x : α) {t : List (Nat × α)} (hk : lo ≤ k) (h : wfFrom lo t = true) :
    wfFrom lo (put k x t) = true := by
  induction t generalizing lo with
  | nil => simp [put, wfFrom, hk]
  | cons e rest ih =>
    obtain ⟨i, z⟩ := e
    simp [wfFrom] at h
    by_cases h1 : k < i
    · simp [put, h1, wfFrom, hk, h.2] <;> omega
    · by_cases h2 : k = i
      · subst h2; simp [put, wfFrom, h]
      · simp [put, h1, h2, wfFrom, h.1]; exact ih (by omega) h.2

/-- Dropping a key keeps the form. -/
theorem wfFrom_drop {lo k : Nat} {t : List (Nat × α)} (h : wfFrom lo t = true) : wfFrom lo (drop k t) = true := by
  induction t generalizing lo with
  | nil => rfl
  | cons e rest ih =>
    obtain ⟨i, z⟩ := e
    simp [wfFrom] at h
    by_cases h1 : i = k
    · simp [drop, h1]; exact wfFrom_mono (by omega) h.2
    · simp [drop, h1, wfFrom, h.1]; exact ih h.2

/-- A change of values alone keeps the form. -/
theorem wfFrom_map {β : Type} (f : Nat × α → β) {lo : Nat} {t : List (Nat × α)} (h : wfFrom lo t = true) :
    wfFrom lo (t.map (fun e => (e.1, f e))) = true := by
  induction t generalizing lo with
  | nil => rfl
  | cons e rest ih => simp [wfFrom] at h ⊢; exact ⟨h.1, ih h.2⟩

/-- A write keeps the canonical form. -/
theorem wf_put (k : Nat) (x : α) {t : List (Nat × α)} (h : wf t = true) : wf (put k x t) = true :=
  wfFrom_put x (Nat.zero_le k) h

/-- Dropping a key keeps the canonical form. -/
theorem wf_drop (k : Nat) {t : List (Nat × α)} (h : wf t = true) : wf (drop k t) = true := wfFrom_drop h

/-- A change of values alone keeps the canonical form. -/
theorem wf_map {β : Type} (f : Nat × α → β) {t : List (Nat × α)} (h : wf t = true) :
    wf (t.map (fun e => (e.1, f e))) = true := wfFrom_map f h

/-- The keys of a table in the form are no lower than the bound. -/
theorem le_of_mem {lo : Nat} {t : List (Nat × α)} {e : Nat × α} (h : wfFrom lo t = true) (he : e ∈ t) : lo ≤ e.1 := by
  induction t generalizing lo with
  | nil => simp at he
  | cons e' rest ih =>
    simp [wfFrom] at h
    rcases List.mem_cons.mp he with rfl | he
    · exact h.1
    · have := ih h.2 he; omega

/-- In the canonical form an entry is what a read at its key gives. -/
theorem get?_of_mem {lo : Nat} {t : List (Nat × α)} {e : Nat × α} (h : wfFrom lo t = true) (he : e ∈ t) :
    get? e.1 t = some e.2 := by
  induction t generalizing lo with
  | nil => simp at he
  | cons e' rest ih =>
    obtain ⟨i, z⟩ := e'
    simp [wfFrom] at h
    rcases List.mem_cons.mp he with rfl | he
    · simp [get?]
    · have := le_of_mem h.2 he
      simp [get?, show ¬ i = e.1 by omega, ih h.2 he]

/-- In the canonical form a dropped key is not listed. -/
theorem get?_drop_self {lo k : Nat} {t : List (Nat × α)} (h : wfFrom lo t = true) : get? k (drop k t) = none := by
  induction t generalizing lo with
  | nil => rfl
  | cons e rest ih =>
    obtain ⟨i, z⟩ := e
    simp [wfFrom] at h
    by_cases h1 : i = k
    · subst h1
      simp only [drop, if_true]
      cases hg : get? i rest with
      | none => rfl
      | some x => have := le_of_mem h.2 (mem_of_get? hg); simp at this <;> omega
    · simp [drop, h1, get?, ih h.2]

/-- A read at another key is unchanged by a drop. -/
theorem get?_drop_ne {k j : Nat} (h : j ≠ k) (t : List (Nat × α)) : get? j (drop k t) = get? j t := by
  induction t with
  | nil => rfl
  | cons e rest ih =>
    obtain ⟨i, z⟩ := e
    by_cases h1 : i = k
    · subst h1; simp [drop, get?, Ne.symm h]
    · simp [drop, h1, get?, ih]

/-! ## Free keys -/

/-- The lowest free key is not listed, in a table in the form from the first key tried. -/
theorem get?_firstFree {lo : Nat} {t : List (Nat × α)} (h : wfFrom lo t = true) : get? (firstFree lo t) t = none := by
  induction t generalizing lo with
  | nil => rfl
  | cons e rest ih =>
    obtain ⟨i, z⟩ := e
    simp [wfFrom] at h
    by_cases h1 : i = lo
    · subst h1
      have hf : i + 1 ≤ firstFree (i + 1) rest := by
        clear ih h
        generalize i + 1 = m
        induction rest generalizing m with
        | nil => simp [firstFree]
        | cons e r ih =>
          obtain ⟨j, y⟩ := e
          by_cases hj : j = m
          · simp [firstFree, hj]; have := ih (m + 1); omega
          · simp [firstFree, hj]
      simp [firstFree, get?, ih h.2]; omega
    · simp only [firstFree, h1, if_false, get?]
      cases hg : get? lo rest with
      | none => rfl
      | some x => have := le_of_mem h.2 (mem_of_get? hg); simp at this <;> omega

/-- The lowest free key lies no further than the table is long. -/
theorem firstFree_le (lo : Nat) (t : List (Nat × α)) : firstFree lo t ≤ lo + t.length := by
  induction t generalizing lo with
  | nil => simp [firstFree]
  | cons e rest ih =>
    obtain ⟨i, z⟩ := e
    by_cases h1 : i = lo
    · simp [firstFree, h1]; have := ih (lo + 1); omega
    · simp [firstFree, h1]

/-- The first entry from a key on is an entry, its key no lower. -/
theorem firstFrom_mem {k : Nat} {t : List (Nat × α)} {e : Nat × α} (h : firstFrom k t = some e) :
    e ∈ t ∧ k ≤ e.1 := by
  induction t with
  | nil => simp [firstFrom] at h
  | cons e' rest ih =>
    obtain ⟨i, z⟩ := e'
    by_cases h1 : k ≤ i
    · simp [firstFrom, h1] at h; subst h; simp [h1]
    · simp [firstFrom, h1] at h; exact ⟨List.mem_cons_of_mem _ (ih h).1, (ih h).2⟩

/-- With no entry from a key on, every key is lower. -/
theorem firstFrom_none {k : Nat} {t : List (Nat × α)} (h : firstFrom k t = none) {e : Nat × α} (he : e ∈ t) :
    e.1 < k := by
  induction t with
  | nil => simp at he
  | cons e' rest ih =>
    obtain ⟨i, z⟩ := e'
    by_cases h1 : k ≤ i
    · simp [firstFrom, h1] at h
    · simp [firstFrom, h1] at h
      rcases List.mem_cons.mp he with rfl | he
      · simp; omega
      · exact ih h he

/-- The first entry from a key on is the lowest there, in the form. -/
theorem firstFrom_least {lo k : Nat} {t : List (Nat × α)} {e f : Nat × α} (hw : wfFrom lo t = true)
    (h : firstFrom k t = some e) (hf : f ∈ t) (hk : k ≤ f.1) : e.1 ≤ f.1 := by
  induction t generalizing lo with
  | nil => simp at hf
  | cons e' rest ih =>
    obtain ⟨i, z⟩ := e'
    simp [wfFrom] at hw
    by_cases h1 : k ≤ i
    · simp [firstFrom, h1] at h
      subst h
      rcases List.mem_cons.mp hf with rfl | hf
      · simp
      · have := le_of_mem hw.2 hf; simp; omega
    · simp [firstFrom, h1] at h
      rcases List.mem_cons.mp hf with rfl | hf
      · simp at hk; omega
      · exact ih hw.2 h hf

end Sys2Proof.Machine.Table
end

