-- ==== Sys2Proof/Laws/State.lean ====
section
/-! SUPPORT. One lemma per field per update of the state, true by definition: what an update leaves in each field. -/
namespace Sys2Proof.Machine

/-! ### putBand: writes visit -/

@[simp] theorem State.putBand_pending (s : State) (slot : Nat) (b : Band) : (s.putBand slot b).pending = s.pending := rfl
@[simp] theorem State.putBand_eventNo (s : State) (slot : Nat) (b : Band) : (s.putBand slot b).eventNo = s.eventNo := rfl
@[simp] theorem State.putBand_now (s : State) (slot : Nat) (b : Band) : (s.putBand slot b).now = s.now := rfl
@[simp] theorem State.putBand_trunk (s : State) (slot : Nat) (b : Band) : (s.putBand slot b).trunk = s.trunk := rfl
@[simp] theorem State.putBand_queue (s : State) (slot : Nat) (b : Band) : (s.putBand slot b).queue = s.queue := rfl
@[simp] theorem State.putBand_alerts (s : State) (slot : Nat) (b : Band) : (s.putBand slot b).alerts = s.alerts := rfl
@[simp] theorem State.putBand_watches (s : State) (slot : Nat) (b : Band) : (s.putBand slot b).watches = s.watches := rfl
@[simp] theorem State.putBand_spurs (s : State) (slot : Nat) (b : Band) : (s.putBand slot b).spurs = s.spurs := rfl
@[simp] theorem State.putBand_visit (s : State) (slot : Nat) (b : Band) : (s.putBand slot b).visit = Table.put slot b s.visit := rfl
@[simp] theorem State.putBand_lockers (s : State) (slot : Nat) (b : Band) : (s.putBand slot b).lockers = s.lockers := rfl
@[simp] theorem State.putBand_zones (s : State) (slot : Nat) (b : Band) : (s.putBand slot b).zones = s.zones := rfl
@[simp] theorem State.putBand_rotors (s : State) (slot : Nat) (b : Band) : (s.putBand slot b).rotors = s.rotors := rfl
@[simp] theorem State.putBand_cabins (s : State) (slot : Nat) (b : Band) : (s.putBand slot b).cabins = s.cabins := rfl
@[simp] theorem State.putBand_cabinClasses (s : State) (slot : Nat) (b : Band) : (s.putBand slot b).cabinClasses = s.cabinClasses := rfl
@[simp] theorem State.putBand_classQueues (s : State) (slot : Nat) (b : Band) : (s.putBand slot b).classQueues = s.classQueues := rfl
@[simp] theorem State.putBand_tickets (s : State) (slot : Nat) (b : Band) : (s.putBand slot b).tickets = s.tickets := rfl
@[simp] theorem State.putBand_classes (s : State) (slot : Nat) (b : Band) : (s.putBand slot b).classes = s.classes := rfl
@[simp] theorem State.putBand_tariffs (s : State) (slot : Nat) (b : Band) : (s.putBand slot b).tariffs = s.tariffs := rfl
@[simp] theorem State.putBand_schedule (s : State) (slot : Nat) (b : Band) : (s.putBand slot b).schedule = s.schedule := rfl
@[simp] theorem State.putBand_control (s : State) (slot : Nat) (b : Band) : (s.putBand slot b).control = s.control := rfl
@[simp] theorem State.putBand_clock (s : State) (slot : Nat) (b : Band) : (s.putBand slot b).clock = s.clock := rfl
@[simp] theorem State.putBand_lines (s : State) (slot : Nat) (b : Band) : (s.putBand slot b).lines = s.lines := rfl

/-! ### dropBand: writes visit -/

@[simp] theorem State.dropBand_pending (s : State) (slot : Nat) : (s.dropBand slot).pending = s.pending := rfl
@[simp] theorem State.dropBand_eventNo (s : State) (slot : Nat) : (s.dropBand slot).eventNo = s.eventNo := rfl
@[simp] theorem State.dropBand_now (s : State) (slot : Nat) : (s.dropBand slot).now = s.now := rfl
@[simp] theorem State.dropBand_trunk (s : State) (slot : Nat) : (s.dropBand slot).trunk = s.trunk := rfl
@[simp] theorem State.dropBand_queue (s : State) (slot : Nat) : (s.dropBand slot).queue = s.queue := rfl
@[simp] theorem State.dropBand_alerts (s : State) (slot : Nat) : (s.dropBand slot).alerts = s.alerts := rfl
@[simp] theorem State.dropBand_watches (s : State) (slot : Nat) : (s.dropBand slot).watches = s.watches := rfl
@[simp] theorem State.dropBand_spurs (s : State) (slot : Nat) : (s.dropBand slot).spurs = s.spurs := rfl
@[simp] theorem State.dropBand_visit (s : State) (slot : Nat) : (s.dropBand slot).visit = Table.drop slot s.visit := rfl
@[simp] theorem State.dropBand_lockers (s : State) (slot : Nat) : (s.dropBand slot).lockers = s.lockers := rfl
@[simp] theorem State.dropBand_zones (s : State) (slot : Nat) : (s.dropBand slot).zones = s.zones := rfl
@[simp] theorem State.dropBand_rotors (s : State) (slot : Nat) : (s.dropBand slot).rotors = s.rotors := rfl
@[simp] theorem State.dropBand_cabins (s : State) (slot : Nat) : (s.dropBand slot).cabins = s.cabins := rfl
@[simp] theorem State.dropBand_cabinClasses (s : State) (slot : Nat) : (s.dropBand slot).cabinClasses = s.cabinClasses := rfl
@[simp] theorem State.dropBand_classQueues (s : State) (slot : Nat) : (s.dropBand slot).classQueues = s.classQueues := rfl
@[simp] theorem State.dropBand_tickets (s : State) (slot : Nat) : (s.dropBand slot).tickets = s.tickets := rfl
@[simp] theorem State.dropBand_classes (s : State) (slot : Nat) : (s.dropBand slot).classes = s.classes := rfl
@[simp] theorem State.dropBand_tariffs (s : State) (slot : Nat) : (s.dropBand slot).tariffs = s.tariffs := rfl
@[simp] theorem State.dropBand_schedule (s : State) (slot : Nat) : (s.dropBand slot).schedule = s.schedule := rfl
@[simp] theorem State.dropBand_control (s : State) (slot : Nat) : (s.dropBand slot).control = s.control := rfl
@[simp] theorem State.dropBand_clock (s : State) (slot : Nat) : (s.dropBand slot).clock = s.clock := rfl
@[simp] theorem State.dropBand_lines (s : State) (slot : Nat) : (s.dropBand slot).lines = s.lines := rfl

/-! ### putLocker: writes lockers -/

@[simp] theorem State.putLocker_pending (s : State) (n : Fin 1024) (l : Locker) : (s.putLocker n l).pending = s.pending := rfl
@[simp] theorem State.putLocker_eventNo (s : State) (n : Fin 1024) (l : Locker) : (s.putLocker n l).eventNo = s.eventNo := rfl
@[simp] theorem State.putLocker_now (s : State) (n : Fin 1024) (l : Locker) : (s.putLocker n l).now = s.now := rfl
@[simp] theorem State.putLocker_trunk (s : State) (n : Fin 1024) (l : Locker) : (s.putLocker n l).trunk = s.trunk := rfl
@[simp] theorem State.putLocker_queue (s : State) (n : Fin 1024) (l : Locker) : (s.putLocker n l).queue = s.queue := rfl
@[simp] theorem State.putLocker_alerts (s : State) (n : Fin 1024) (l : Locker) : (s.putLocker n l).alerts = s.alerts := rfl
@[simp] theorem State.putLocker_watches (s : State) (n : Fin 1024) (l : Locker) : (s.putLocker n l).watches = s.watches := rfl
@[simp] theorem State.putLocker_spurs (s : State) (n : Fin 1024) (l : Locker) : (s.putLocker n l).spurs = s.spurs := rfl
@[simp] theorem State.putLocker_visit (s : State) (n : Fin 1024) (l : Locker) : (s.putLocker n l).visit = s.visit := rfl
@[simp] theorem State.putLocker_lockers (s : State) (n : Fin 1024) (l : Locker) : (s.putLocker n l).lockers = Table.put n.val l s.lockers := rfl
@[simp] theorem State.putLocker_zones (s : State) (n : Fin 1024) (l : Locker) : (s.putLocker n l).zones = s.zones := rfl
@[simp] theorem State.putLocker_rotors (s : State) (n : Fin 1024) (l : Locker) : (s.putLocker n l).rotors = s.rotors := rfl
@[simp] theorem State.putLocker_cabins (s : State) (n : Fin 1024) (l : Locker) : (s.putLocker n l).cabins = s.cabins := rfl
@[simp] theorem State.putLocker_cabinClasses (s : State) (n : Fin 1024) (l : Locker) : (s.putLocker n l).cabinClasses = s.cabinClasses := rfl
@[simp] theorem State.putLocker_classQueues (s : State) (n : Fin 1024) (l : Locker) : (s.putLocker n l).classQueues = s.classQueues := rfl
@[simp] theorem State.putLocker_tickets (s : State) (n : Fin 1024) (l : Locker) : (s.putLocker n l).tickets = s.tickets := rfl
@[simp] theorem State.putLocker_classes (s : State) (n : Fin 1024) (l : Locker) : (s.putLocker n l).classes = s.classes := rfl
@[simp] theorem State.putLocker_tariffs (s : State) (n : Fin 1024) (l : Locker) : (s.putLocker n l).tariffs = s.tariffs := rfl
@[simp] theorem State.putLocker_schedule (s : State) (n : Fin 1024) (l : Locker) : (s.putLocker n l).schedule = s.schedule := rfl
@[simp] theorem State.putLocker_control (s : State) (n : Fin 1024) (l : Locker) : (s.putLocker n l).control = s.control := rfl
@[simp] theorem State.putLocker_clock (s : State) (n : Fin 1024) (l : Locker) : (s.putLocker n l).clock = s.clock := rfl
@[simp] theorem State.putLocker_lines (s : State) (n : Fin 1024) (l : Locker) : (s.putLocker n l).lines = s.lines := rfl

/-! ### dropLocker: writes lockers -/

@[simp] theorem State.dropLocker_pending (s : State) (n : Fin 1024) : (s.dropLocker n).pending = s.pending := rfl
@[simp] theorem State.dropLocker_eventNo (s : State) (n : Fin 1024) : (s.dropLocker n).eventNo = s.eventNo := rfl
@[simp] theorem State.dropLocker_now (s : State) (n : Fin 1024) : (s.dropLocker n).now = s.now := rfl
@[simp] theorem State.dropLocker_trunk (s : State) (n : Fin 1024) : (s.dropLocker n).trunk = s.trunk := rfl
@[simp] theorem State.dropLocker_queue (s : State) (n : Fin 1024) : (s.dropLocker n).queue = s.queue := rfl
@[simp] theorem State.dropLocker_alerts (s : State) (n : Fin 1024) : (s.dropLocker n).alerts = s.alerts := rfl
@[simp] theorem State.dropLocker_watches (s : State) (n : Fin 1024) : (s.dropLocker n).watches = s.watches := rfl
@[simp] theorem State.dropLocker_spurs (s : State) (n : Fin 1024) : (s.dropLocker n).spurs = s.spurs := rfl
@[simp] theorem State.dropLocker_visit (s : State) (n : Fin 1024) : (s.dropLocker n).visit = s.visit := rfl
@[simp] theorem State.dropLocker_lockers (s : State) (n : Fin 1024) : (s.dropLocker n).lockers = Table.drop n.val s.lockers := rfl
@[simp] theorem State.dropLocker_zones (s : State) (n : Fin 1024) : (s.dropLocker n).zones = s.zones := rfl
@[simp] theorem State.dropLocker_rotors (s : State) (n : Fin 1024) : (s.dropLocker n).rotors = s.rotors := rfl
@[simp] theorem State.dropLocker_cabins (s : State) (n : Fin 1024) : (s.dropLocker n).cabins = s.cabins := rfl
@[simp] theorem State.dropLocker_cabinClasses (s : State) (n : Fin 1024) : (s.dropLocker n).cabinClasses = s.cabinClasses := rfl
@[simp] theorem State.dropLocker_classQueues (s : State) (n : Fin 1024) : (s.dropLocker n).classQueues = s.classQueues := rfl
@[simp] theorem State.dropLocker_tickets (s : State) (n : Fin 1024) : (s.dropLocker n).tickets = s.tickets := rfl
@[simp] theorem State.dropLocker_classes (s : State) (n : Fin 1024) : (s.dropLocker n).classes = s.classes := rfl
@[simp] theorem State.dropLocker_tariffs (s : State) (n : Fin 1024) : (s.dropLocker n).tariffs = s.tariffs := rfl
@[simp] theorem State.dropLocker_schedule (s : State) (n : Fin 1024) : (s.dropLocker n).schedule = s.schedule := rfl
@[simp] theorem State.dropLocker_control (s : State) (n : Fin 1024) : (s.dropLocker n).control = s.control := rfl
@[simp] theorem State.dropLocker_clock (s : State) (n : Fin 1024) : (s.dropLocker n).clock = s.clock := rfl
@[simp] theorem State.dropLocker_lines (s : State) (n : Fin 1024) : (s.dropLocker n).lines = s.lines := rfl

/-! ### putCabin: writes cabins -/

@[simp] theorem State.putCabin_pending (s : State) (n : Fin 64) (c : Cabin) : (s.putCabin n c).pending = s.pending := rfl
@[simp] theorem State.putCabin_eventNo (s : State) (n : Fin 64) (c : Cabin) : (s.putCabin n c).eventNo = s.eventNo := rfl
@[simp] theorem State.putCabin_now (s : State) (n : Fin 64) (c : Cabin) : (s.putCabin n c).now = s.now := rfl
@[simp] theorem State.putCabin_trunk (s : State) (n : Fin 64) (c : Cabin) : (s.putCabin n c).trunk = s.trunk := rfl
@[simp] theorem State.putCabin_queue (s : State) (n : Fin 64) (c : Cabin) : (s.putCabin n c).queue = s.queue := rfl
@[simp] theorem State.putCabin_alerts (s : State) (n : Fin 64) (c : Cabin) : (s.putCabin n c).alerts = s.alerts := rfl
@[simp] theorem State.putCabin_watches (s : State) (n : Fin 64) (c : Cabin) : (s.putCabin n c).watches = s.watches := rfl
@[simp] theorem State.putCabin_spurs (s : State) (n : Fin 64) (c : Cabin) : (s.putCabin n c).spurs = s.spurs := rfl
@[simp] theorem State.putCabin_visit (s : State) (n : Fin 64) (c : Cabin) : (s.putCabin n c).visit = s.visit := rfl
@[simp] theorem State.putCabin_lockers (s : State) (n : Fin 64) (c : Cabin) : (s.putCabin n c).lockers = s.lockers := rfl
@[simp] theorem State.putCabin_zones (s : State) (n : Fin 64) (c : Cabin) : (s.putCabin n c).zones = s.zones := rfl
@[simp] theorem State.putCabin_rotors (s : State) (n : Fin 64) (c : Cabin) : (s.putCabin n c).rotors = s.rotors := rfl
@[simp] theorem State.putCabin_cabins (s : State) (n : Fin 64) (c : Cabin) : (s.putCabin n c).cabins = Table.put n.val c s.cabins := rfl
@[simp] theorem State.putCabin_cabinClasses (s : State) (n : Fin 64) (c : Cabin) : (s.putCabin n c).cabinClasses = s.cabinClasses := rfl
@[simp] theorem State.putCabin_classQueues (s : State) (n : Fin 64) (c : Cabin) : (s.putCabin n c).classQueues = s.classQueues := rfl
@[simp] theorem State.putCabin_tickets (s : State) (n : Fin 64) (c : Cabin) : (s.putCabin n c).tickets = s.tickets := rfl
@[simp] theorem State.putCabin_classes (s : State) (n : Fin 64) (c : Cabin) : (s.putCabin n c).classes = s.classes := rfl
@[simp] theorem State.putCabin_tariffs (s : State) (n : Fin 64) (c : Cabin) : (s.putCabin n c).tariffs = s.tariffs := rfl
@[simp] theorem State.putCabin_schedule (s : State) (n : Fin 64) (c : Cabin) : (s.putCabin n c).schedule = s.schedule := rfl
@[simp] theorem State.putCabin_control (s : State) (n : Fin 64) (c : Cabin) : (s.putCabin n c).control = s.control := rfl
@[simp] theorem State.putCabin_clock (s : State) (n : Fin 64) (c : Cabin) : (s.putCabin n c).clock = s.clock := rfl
@[simp] theorem State.putCabin_lines (s : State) (n : Fin 64) (c : Cabin) : (s.putCabin n c).lines = s.lines := rfl

/-! ### dropCabin: writes cabins -/

@[simp] theorem State.dropCabin_pending (s : State) (n : Fin 64) : (s.dropCabin n).pending = s.pending := rfl
@[simp] theorem State.dropCabin_eventNo (s : State) (n : Fin 64) : (s.dropCabin n).eventNo = s.eventNo := rfl
@[simp] theorem State.dropCabin_now (s : State) (n : Fin 64) : (s.dropCabin n).now = s.now := rfl
@[simp] theorem State.dropCabin_trunk (s : State) (n : Fin 64) : (s.dropCabin n).trunk = s.trunk := rfl
@[simp] theorem State.dropCabin_queue (s : State) (n : Fin 64) : (s.dropCabin n).queue = s.queue := rfl
@[simp] theorem State.dropCabin_alerts (s : State) (n : Fin 64) : (s.dropCabin n).alerts = s.alerts := rfl
@[simp] theorem State.dropCabin_watches (s : State) (n : Fin 64) : (s.dropCabin n).watches = s.watches := rfl
@[simp] theorem State.dropCabin_spurs (s : State) (n : Fin 64) : (s.dropCabin n).spurs = s.spurs := rfl
@[simp] theorem State.dropCabin_visit (s : State) (n : Fin 64) : (s.dropCabin n).visit = s.visit := rfl
@[simp] theorem State.dropCabin_lockers (s : State) (n : Fin 64) : (s.dropCabin n).lockers = s.lockers := rfl
@[simp] theorem State.dropCabin_zones (s : State) (n : Fin 64) : (s.dropCabin n).zones = s.zones := rfl
@[simp] theorem State.dropCabin_rotors (s : State) (n : Fin 64) : (s.dropCabin n).rotors = s.rotors := rfl
@[simp] theorem State.dropCabin_cabins (s : State) (n : Fin 64) : (s.dropCabin n).cabins = Table.drop n.val s.cabins := rfl
@[simp] theorem State.dropCabin_cabinClasses (s : State) (n : Fin 64) : (s.dropCabin n).cabinClasses = s.cabinClasses := rfl
@[simp] theorem State.dropCabin_classQueues (s : State) (n : Fin 64) : (s.dropCabin n).classQueues = s.classQueues := rfl
@[simp] theorem State.dropCabin_tickets (s : State) (n : Fin 64) : (s.dropCabin n).tickets = s.tickets := rfl
@[simp] theorem State.dropCabin_classes (s : State) (n : Fin 64) : (s.dropCabin n).classes = s.classes := rfl
@[simp] theorem State.dropCabin_tariffs (s : State) (n : Fin 64) : (s.dropCabin n).tariffs = s.tariffs := rfl
@[simp] theorem State.dropCabin_schedule (s : State) (n : Fin 64) : (s.dropCabin n).schedule = s.schedule := rfl
@[simp] theorem State.dropCabin_control (s : State) (n : Fin 64) : (s.dropCabin n).control = s.control := rfl
@[simp] theorem State.dropCabin_clock (s : State) (n : Fin 64) : (s.dropCabin n).clock = s.clock := rfl
@[simp] theorem State.dropCabin_lines (s : State) (n : Fin 64) : (s.dropCabin n).lines = s.lines := rfl

/-! ### putSpur: writes spurs -/

@[simp] theorem State.putSpur_pending (s : State) (sp : Fin 4) (p : Spur) : (s.putSpur sp p).pending = s.pending := rfl
@[simp] theorem State.putSpur_eventNo (s : State) (sp : Fin 4) (p : Spur) : (s.putSpur sp p).eventNo = s.eventNo := rfl
@[simp] theorem State.putSpur_now (s : State) (sp : Fin 4) (p : Spur) : (s.putSpur sp p).now = s.now := rfl
@[simp] theorem State.putSpur_trunk (s : State) (sp : Fin 4) (p : Spur) : (s.putSpur sp p).trunk = s.trunk := rfl
@[simp] theorem State.putSpur_queue (s : State) (sp : Fin 4) (p : Spur) : (s.putSpur sp p).queue = s.queue := rfl
@[simp] theorem State.putSpur_alerts (s : State) (sp : Fin 4) (p : Spur) : (s.putSpur sp p).alerts = s.alerts := rfl
@[simp] theorem State.putSpur_watches (s : State) (sp : Fin 4) (p : Spur) : (s.putSpur sp p).watches = s.watches := rfl
@[simp] theorem State.putSpur_spurs (s : State) (sp : Fin 4) (p : Spur) : (s.putSpur sp p).spurs = s.spurs.set sp.val p := rfl
@[simp] theorem State.putSpur_visit (s : State) (sp : Fin 4) (p : Spur) : (s.putSpur sp p).visit = s.visit := rfl
@[simp] theorem State.putSpur_lockers (s : State) (sp : Fin 4) (p : Spur) : (s.putSpur sp p).lockers = s.lockers := rfl
@[simp] theorem State.putSpur_zones (s : State) (sp : Fin 4) (p : Spur) : (s.putSpur sp p).zones = s.zones := rfl
@[simp] theorem State.putSpur_rotors (s : State) (sp : Fin 4) (p : Spur) : (s.putSpur sp p).rotors = s.rotors := rfl
@[simp] theorem State.putSpur_cabins (s : State) (sp : Fin 4) (p : Spur) : (s.putSpur sp p).cabins = s.cabins := rfl
@[simp] theorem State.putSpur_cabinClasses (s : State) (sp : Fin 4) (p : Spur) : (s.putSpur sp p).cabinClasses = s.cabinClasses := rfl
@[simp] theorem State.putSpur_classQueues (s : State) (sp : Fin 4) (p : Spur) : (s.putSpur sp p).classQueues = s.classQueues := rfl
@[simp] theorem State.putSpur_tickets (s : State) (sp : Fin 4) (p : Spur) : (s.putSpur sp p).tickets = s.tickets := rfl
@[simp] theorem State.putSpur_classes (s : State) (sp : Fin 4) (p : Spur) : (s.putSpur sp p).classes = s.classes := rfl
@[simp] theorem State.putSpur_tariffs (s : State) (sp : Fin 4) (p : Spur) : (s.putSpur sp p).tariffs = s.tariffs := rfl
@[simp] theorem State.putSpur_schedule (s : State) (sp : Fin 4) (p : Spur) : (s.putSpur sp p).schedule = s.schedule := rfl
@[simp] theorem State.putSpur_control (s : State) (sp : Fin 4) (p : Spur) : (s.putSpur sp p).control = s.control := rfl
@[simp] theorem State.putSpur_clock (s : State) (sp : Fin 4) (p : Spur) : (s.putSpur sp p).clock = s.clock := rfl
@[simp] theorem State.putSpur_lines (s : State) (sp : Fin 4) (p : Spur) : (s.putSpur sp p).lines = s.lines := rfl

/-! ### putClassQueue: writes classQueues -/

@[simp] theorem State.putClassQueue_pending (s : State) (k : Fin 4) (q : List QueueEntry) : (s.putClassQueue k q).pending = s.pending := rfl
@[simp] theorem State.putClassQueue_eventNo (s : State) (k : Fin 4) (q : List QueueEntry) : (s.putClassQueue k q).eventNo = s.eventNo := rfl
@[simp] theorem State.putClassQueue_now (s : State) (k : Fin 4) (q : List QueueEntry) : (s.putClassQueue k q).now = s.now := rfl
@[simp] theorem State.putClassQueue_trunk (s : State) (k : Fin 4) (q : List QueueEntry) : (s.putClassQueue k q).trunk = s.trunk := rfl
@[simp] theorem State.putClassQueue_queue (s : State) (k : Fin 4) (q : List QueueEntry) : (s.putClassQueue k q).queue = s.queue := rfl
@[simp] theorem State.putClassQueue_alerts (s : State) (k : Fin 4) (q : List QueueEntry) : (s.putClassQueue k q).alerts = s.alerts := rfl
@[simp] theorem State.putClassQueue_watches (s : State) (k : Fin 4) (q : List QueueEntry) : (s.putClassQueue k q).watches = s.watches := rfl
@[simp] theorem State.putClassQueue_spurs (s : State) (k : Fin 4) (q : List QueueEntry) : (s.putClassQueue k q).spurs = s.spurs := rfl
@[simp] theorem State.putClassQueue_visit (s : State) (k : Fin 4) (q : List QueueEntry) : (s.putClassQueue k q).visit = s.visit := rfl
@[simp] theorem State.putClassQueue_lockers (s : State) (k : Fin 4) (q : List QueueEntry) : (s.putClassQueue k q).lockers = s.lockers := rfl
@[simp] theorem State.putClassQueue_zones (s : State) (k : Fin 4) (q : List QueueEntry) : (s.putClassQueue k q).zones = s.zones := rfl
@[simp] theorem State.putClassQueue_rotors (s : State) (k : Fin 4) (q : List QueueEntry) : (s.putClassQueue k q).rotors = s.rotors := rfl
@[simp] theorem State.putClassQueue_cabins (s : State) (k : Fin 4) (q : List QueueEntry) : (s.putClassQueue k q).cabins = s.cabins := rfl
@[simp] theorem State.putClassQueue_cabinClasses (s : State) (k : Fin 4) (q : List QueueEntry) : (s.putClassQueue k q).cabinClasses = s.cabinClasses := rfl
@[simp] theorem State.putClassQueue_classQueues (s : State) (k : Fin 4) (q : List QueueEntry) : (s.putClassQueue k q).classQueues = s.classQueues.set k.val q := rfl
@[simp] theorem State.putClassQueue_tickets (s : State) (k : Fin 4) (q : List QueueEntry) : (s.putClassQueue k q).tickets = s.tickets := rfl
@[simp] theorem State.putClassQueue_classes (s : State) (k : Fin 4) (q : List QueueEntry) : (s.putClassQueue k q).classes = s.classes := rfl
@[simp] theorem State.putClassQueue_tariffs (s : State) (k : Fin 4) (q : List QueueEntry) : (s.putClassQueue k q).tariffs = s.tariffs := rfl
@[simp] theorem State.putClassQueue_schedule (s : State) (k : Fin 4) (q : List QueueEntry) : (s.putClassQueue k q).schedule = s.schedule := rfl
@[simp] theorem State.putClassQueue_control (s : State) (k : Fin 4) (q : List QueueEntry) : (s.putClassQueue k q).control = s.control := rfl
@[simp] theorem State.putClassQueue_clock (s : State) (k : Fin 4) (q : List QueueEntry) : (s.putClassQueue k q).clock = s.clock := rfl
@[simp] theorem State.putClassQueue_lines (s : State) (k : Fin 4) (q : List QueueEntry) : (s.putClassQueue k q).lines = s.lines := rfl

/-! ### passTo: writes now -/

@[simp] theorem State.passTo_pending (s : State) (t : Nat) : (s.passTo t).pending = s.pending := rfl
@[simp] theorem State.passTo_eventNo (s : State) (t : Nat) : (s.passTo t).eventNo = s.eventNo := rfl
@[simp] theorem State.passTo_now (s : State) (t : Nat) : (s.passTo t).now = max s.now t := rfl
@[simp] theorem State.passTo_trunk (s : State) (t : Nat) : (s.passTo t).trunk = s.trunk := rfl
@[simp] theorem State.passTo_queue (s : State) (t : Nat) : (s.passTo t).queue = s.queue := rfl
@[simp] theorem State.passTo_alerts (s : State) (t : Nat) : (s.passTo t).alerts = s.alerts := rfl
@[simp] theorem State.passTo_watches (s : State) (t : Nat) : (s.passTo t).watches = s.watches := rfl
@[simp] theorem State.passTo_spurs (s : State) (t : Nat) : (s.passTo t).spurs = s.spurs := rfl
@[simp] theorem State.passTo_visit (s : State) (t : Nat) : (s.passTo t).visit = s.visit := rfl
@[simp] theorem State.passTo_lockers (s : State) (t : Nat) : (s.passTo t).lockers = s.lockers := rfl
@[simp] theorem State.passTo_zones (s : State) (t : Nat) : (s.passTo t).zones = s.zones := rfl
@[simp] theorem State.passTo_rotors (s : State) (t : Nat) : (s.passTo t).rotors = s.rotors := rfl
@[simp] theorem State.passTo_cabins (s : State) (t : Nat) : (s.passTo t).cabins = s.cabins := rfl
@[simp] theorem State.passTo_cabinClasses (s : State) (t : Nat) : (s.passTo t).cabinClasses = s.cabinClasses := rfl
@[simp] theorem State.passTo_classQueues (s : State) (t : Nat) : (s.passTo t).classQueues = s.classQueues := rfl
@[simp] theorem State.passTo_tickets (s : State) (t : Nat) : (s.passTo t).tickets = s.tickets := rfl
@[simp] theorem State.passTo_classes (s : State) (t : Nat) : (s.passTo t).classes = s.classes := rfl
@[simp] theorem State.passTo_tariffs (s : State) (t : Nat) : (s.passTo t).tariffs = s.tariffs := rfl
@[simp] theorem State.passTo_schedule (s : State) (t : Nat) : (s.passTo t).schedule = s.schedule := rfl
@[simp] theorem State.passTo_control (s : State) (t : Nat) : (s.passTo t).control = s.control := rfl
@[simp] theorem State.passTo_clock (s : State) (t : Nat) : (s.passTo t).clock = s.clock := rfl
@[simp] theorem State.passTo_lines (s : State) (t : Nat) : (s.passTo t).lines = s.lines := rfl

/-! ### putLatch: writes alerts -/

@[simp] theorem State.putLatch_pending (s : State) (c : AlertClass) (l : Latch) : (s.putLatch c l).pending = s.pending := rfl
@[simp] theorem State.putLatch_eventNo (s : State) (c : AlertClass) (l : Latch) : (s.putLatch c l).eventNo = s.eventNo := rfl
@[simp] theorem State.putLatch_now (s : State) (c : AlertClass) (l : Latch) : (s.putLatch c l).now = s.now := rfl
@[simp] theorem State.putLatch_trunk (s : State) (c : AlertClass) (l : Latch) : (s.putLatch c l).trunk = s.trunk := rfl
@[simp] theorem State.putLatch_queue (s : State) (c : AlertClass) (l : Latch) : (s.putLatch c l).queue = s.queue := rfl
@[simp] theorem State.putLatch_alerts (s : State) (c : AlertClass) (l : Latch) : (s.putLatch c l).alerts = s.alerts.set c.index.val l := rfl
@[simp] theorem State.putLatch_watches (s : State) (c : AlertClass) (l : Latch) : (s.putLatch c l).watches = s.watches := rfl
@[simp] theorem State.putLatch_spurs (s : State) (c : AlertClass) (l : Latch) : (s.putLatch c l).spurs = s.spurs := rfl
@[simp] theorem State.putLatch_visit (s : State) (c : AlertClass) (l : Latch) : (s.putLatch c l).visit = s.visit := rfl
@[simp] theorem State.putLatch_lockers (s : State) (c : AlertClass) (l : Latch) : (s.putLatch c l).lockers = s.lockers := rfl
@[simp] theorem State.putLatch_zones (s : State) (c : AlertClass) (l : Latch) : (s.putLatch c l).zones = s.zones := rfl
@[simp] theorem State.putLatch_rotors (s : State) (c : AlertClass) (l : Latch) : (s.putLatch c l).rotors = s.rotors := rfl
@[simp] theorem State.putLatch_cabins (s : State) (c : AlertClass) (l : Latch) : (s.putLatch c l).cabins = s.cabins := rfl
@[simp] theorem State.putLatch_cabinClasses (s : State) (c : AlertClass) (l : Latch) : (s.putLatch c l).cabinClasses = s.cabinClasses := rfl
@[simp] theorem State.putLatch_classQueues (s : State) (c : AlertClass) (l : Latch) : (s.putLatch c l).classQueues = s.classQueues := rfl
@[simp] theorem State.putLatch_tickets (s : State) (c : AlertClass) (l : Latch) : (s.putLatch c l).tickets = s.tickets := rfl
@[simp] theorem State.putLatch_classes (s : State) (c : AlertClass) (l : Latch) : (s.putLatch c l).classes = s.classes := rfl
@[simp] theorem State.putLatch_tariffs (s : State) (c : AlertClass) (l : Latch) : (s.putLatch c l).tariffs = s.tariffs := rfl
@[simp] theorem State.putLatch_schedule (s : State) (c : AlertClass) (l : Latch) : (s.putLatch c l).schedule = s.schedule := rfl
@[simp] theorem State.putLatch_control (s : State) (c : AlertClass) (l : Latch) : (s.putLatch c l).control = s.control := rfl
@[simp] theorem State.putLatch_clock (s : State) (c : AlertClass) (l : Latch) : (s.putLatch c l).clock = s.clock := rfl
@[simp] theorem State.putLatch_lines (s : State) (c : AlertClass) (l : Latch) : (s.putLatch c l).lines = s.lines := rfl

/-! ### putLine: writes lines -/

@[simp] theorem State.putLine_pending (s : State) (i : Fin 6) (l : Line) : (s.putLine i l).pending = s.pending := rfl
@[simp] theorem State.putLine_eventNo (s : State) (i : Fin 6) (l : Line) : (s.putLine i l).eventNo = s.eventNo := rfl
@[simp] theorem State.putLine_now (s : State) (i : Fin 6) (l : Line) : (s.putLine i l).now = s.now := rfl
@[simp] theorem State.putLine_trunk (s : State) (i : Fin 6) (l : Line) : (s.putLine i l).trunk = s.trunk := rfl
@[simp] theorem State.putLine_queue (s : State) (i : Fin 6) (l : Line) : (s.putLine i l).queue = s.queue := rfl
@[simp] theorem State.putLine_alerts (s : State) (i : Fin 6) (l : Line) : (s.putLine i l).alerts = s.alerts := rfl
@[simp] theorem State.putLine_watches (s : State) (i : Fin 6) (l : Line) : (s.putLine i l).watches = s.watches := rfl
@[simp] theorem State.putLine_spurs (s : State) (i : Fin 6) (l : Line) : (s.putLine i l).spurs = s.spurs := rfl
@[simp] theorem State.putLine_visit (s : State) (i : Fin 6) (l : Line) : (s.putLine i l).visit = s.visit := rfl
@[simp] theorem State.putLine_lockers (s : State) (i : Fin 6) (l : Line) : (s.putLine i l).lockers = s.lockers := rfl
@[simp] theorem State.putLine_zones (s : State) (i : Fin 6) (l : Line) : (s.putLine i l).zones = s.zones := rfl
@[simp] theorem State.putLine_rotors (s : State) (i : Fin 6) (l : Line) : (s.putLine i l).rotors = s.rotors := rfl
@[simp] theorem State.putLine_cabins (s : State) (i : Fin 6) (l : Line) : (s.putLine i l).cabins = s.cabins := rfl
@[simp] theorem State.putLine_cabinClasses (s : State) (i : Fin 6) (l : Line) : (s.putLine i l).cabinClasses = s.cabinClasses := rfl
@[simp] theorem State.putLine_classQueues (s : State) (i : Fin 6) (l : Line) : (s.putLine i l).classQueues = s.classQueues := rfl
@[simp] theorem State.putLine_tickets (s : State) (i : Fin 6) (l : Line) : (s.putLine i l).tickets = s.tickets := rfl
@[simp] theorem State.putLine_classes (s : State) (i : Fin 6) (l : Line) : (s.putLine i l).classes = s.classes := rfl
@[simp] theorem State.putLine_tariffs (s : State) (i : Fin 6) (l : Line) : (s.putLine i l).tariffs = s.tariffs := rfl
@[simp] theorem State.putLine_schedule (s : State) (i : Fin 6) (l : Line) : (s.putLine i l).schedule = s.schedule := rfl
@[simp] theorem State.putLine_control (s : State) (i : Fin 6) (l : Line) : (s.putLine i l).control = s.control := rfl
@[simp] theorem State.putLine_clock (s : State) (i : Fin 6) (l : Line) : (s.putLine i l).clock = s.clock := rfl
@[simp] theorem State.putLine_lines (s : State) (i : Fin 6) (l : Line) : (s.putLine i l).lines = s.lines.set i.val l := rfl

/-! ### setEvacuation: writes clock -/

@[simp] theorem State.setEvacuation_pending (s : State) (on : Bool) : (s.setEvacuation on).pending = s.pending := rfl
@[simp] theorem State.setEvacuation_eventNo (s : State) (on : Bool) : (s.setEvacuation on).eventNo = s.eventNo := rfl
@[simp] theorem State.setEvacuation_now (s : State) (on : Bool) : (s.setEvacuation on).now = s.now := rfl
@[simp] theorem State.setEvacuation_trunk (s : State) (on : Bool) : (s.setEvacuation on).trunk = s.trunk := rfl
@[simp] theorem State.setEvacuation_queue (s : State) (on : Bool) : (s.setEvacuation on).queue = s.queue := rfl
@[simp] theorem State.setEvacuation_alerts (s : State) (on : Bool) : (s.setEvacuation on).alerts = s.alerts := rfl
@[simp] theorem State.setEvacuation_watches (s : State) (on : Bool) : (s.setEvacuation on).watches = s.watches := rfl
@[simp] theorem State.setEvacuation_spurs (s : State) (on : Bool) : (s.setEvacuation on).spurs = s.spurs := rfl
@[simp] theorem State.setEvacuation_visit (s : State) (on : Bool) : (s.setEvacuation on).visit = s.visit := rfl
@[simp] theorem State.setEvacuation_lockers (s : State) (on : Bool) : (s.setEvacuation on).lockers = s.lockers := rfl
@[simp] theorem State.setEvacuation_zones (s : State) (on : Bool) : (s.setEvacuation on).zones = s.zones := rfl
@[simp] theorem State.setEvacuation_rotors (s : State) (on : Bool) : (s.setEvacuation on).rotors = s.rotors := rfl
@[simp] theorem State.setEvacuation_cabins (s : State) (on : Bool) : (s.setEvacuation on).cabins = s.cabins := rfl
@[simp] theorem State.setEvacuation_cabinClasses (s : State) (on : Bool) : (s.setEvacuation on).cabinClasses = s.cabinClasses := rfl
@[simp] theorem State.setEvacuation_classQueues (s : State) (on : Bool) : (s.setEvacuation on).classQueues = s.classQueues := rfl
@[simp] theorem State.setEvacuation_tickets (s : State) (on : Bool) : (s.setEvacuation on).tickets = s.tickets := rfl
@[simp] theorem State.setEvacuation_classes (s : State) (on : Bool) : (s.setEvacuation on).classes = s.classes := rfl
@[simp] theorem State.setEvacuation_tariffs (s : State) (on : Bool) : (s.setEvacuation on).tariffs = s.tariffs := rfl
@[simp] theorem State.setEvacuation_schedule (s : State) (on : Bool) : (s.setEvacuation on).schedule = s.schedule := rfl
@[simp] theorem State.setEvacuation_control (s : State) (on : Bool) : (s.setEvacuation on).control = s.control := rfl
@[simp] theorem State.setEvacuation_clock (s : State) (on : Bool) : (s.setEvacuation on).clock = { s.clock with evacuation := on } := rfl
@[simp] theorem State.setEvacuation_lines (s : State) (on : Bool) : (s.setEvacuation on).lines = s.lines := rfl

/-! ### setWalk: writes clock -/

@[simp] theorem State.setWalk_pending (s : State) (w : Walk) : (s.setWalk w).pending = s.pending := rfl
@[simp] theorem State.setWalk_eventNo (s : State) (w : Walk) : (s.setWalk w).eventNo = s.eventNo := rfl
@[simp] theorem State.setWalk_now (s : State) (w : Walk) : (s.setWalk w).now = s.now := rfl
@[simp] theorem State.setWalk_trunk (s : State) (w : Walk) : (s.setWalk w).trunk = s.trunk := rfl
@[simp] theorem State.setWalk_queue (s : State) (w : Walk) : (s.setWalk w).queue = s.queue := rfl
@[simp] theorem State.setWalk_alerts (s : State) (w : Walk) : (s.setWalk w).alerts = s.alerts := rfl
@[simp] theorem State.setWalk_watches (s : State) (w : Walk) : (s.setWalk w).watches = s.watches := rfl
@[simp] theorem State.setWalk_spurs (s : State) (w : Walk) : (s.setWalk w).spurs = s.spurs := rfl
@[simp] theorem State.setWalk_visit (s : State) (w : Walk) : (s.setWalk w).visit = s.visit := rfl
@[simp] theorem State.setWalk_lockers (s : State) (w : Walk) : (s.setWalk w).lockers = s.lockers := rfl
@[simp] theorem State.setWalk_zones (s : State) (w : Walk) : (s.setWalk w).zones = s.zones := rfl
@[simp] theorem State.setWalk_rotors (s : State) (w : Walk) : (s.setWalk w).rotors = s.rotors := rfl
@[simp] theorem State.setWalk_cabins (s : State) (w : Walk) : (s.setWalk w).cabins = s.cabins := rfl
@[simp] theorem State.setWalk_cabinClasses (s : State) (w : Walk) : (s.setWalk w).cabinClasses = s.cabinClasses := rfl
@[simp] theorem State.setWalk_classQueues (s : State) (w : Walk) : (s.setWalk w).classQueues = s.classQueues := rfl
@[simp] theorem State.setWalk_tickets (s : State) (w : Walk) : (s.setWalk w).tickets = s.tickets := rfl
@[simp] theorem State.setWalk_classes (s : State) (w : Walk) : (s.setWalk w).classes = s.classes := rfl
@[simp] theorem State.setWalk_tariffs (s : State) (w : Walk) : (s.setWalk w).tariffs = s.tariffs := rfl
@[simp] theorem State.setWalk_schedule (s : State) (w : Walk) : (s.setWalk w).schedule = s.schedule := rfl
@[simp] theorem State.setWalk_control (s : State) (w : Walk) : (s.setWalk w).control = s.control := rfl
@[simp] theorem State.setWalk_clock (s : State) (w : Walk) : (s.setWalk w).clock = { s.clock with walk := w } := rfl
@[simp] theorem State.setWalk_lines (s : State) (w : Walk) : (s.setWalk w).lines = s.lines := rfl

/-! ### walkPast: writes clock -/

@[simp] theorem State.walkPast_pending (s : State) (slot : Nat) : (s.walkPast slot).pending = s.pending := rfl
@[simp] theorem State.walkPast_eventNo (s : State) (slot : Nat) : (s.walkPast slot).eventNo = s.eventNo := rfl
@[simp] theorem State.walkPast_now (s : State) (slot : Nat) : (s.walkPast slot).now = s.now := rfl
@[simp] theorem State.walkPast_trunk (s : State) (slot : Nat) : (s.walkPast slot).trunk = s.trunk := rfl
@[simp] theorem State.walkPast_queue (s : State) (slot : Nat) : (s.walkPast slot).queue = s.queue := rfl
@[simp] theorem State.walkPast_alerts (s : State) (slot : Nat) : (s.walkPast slot).alerts = s.alerts := rfl
@[simp] theorem State.walkPast_watches (s : State) (slot : Nat) : (s.walkPast slot).watches = s.watches := rfl
@[simp] theorem State.walkPast_spurs (s : State) (slot : Nat) : (s.walkPast slot).spurs = s.spurs := rfl
@[simp] theorem State.walkPast_visit (s : State) (slot : Nat) : (s.walkPast slot).visit = s.visit := rfl
@[simp] theorem State.walkPast_lockers (s : State) (slot : Nat) : (s.walkPast slot).lockers = s.lockers := rfl
@[simp] theorem State.walkPast_zones (s : State) (slot : Nat) : (s.walkPast slot).zones = s.zones := rfl
@[simp] theorem State.walkPast_rotors (s : State) (slot : Nat) : (s.walkPast slot).rotors = s.rotors := rfl
@[simp] theorem State.walkPast_cabins (s : State) (slot : Nat) : (s.walkPast slot).cabins = s.cabins := rfl
@[simp] theorem State.walkPast_cabinClasses (s : State) (slot : Nat) : (s.walkPast slot).cabinClasses = s.cabinClasses := rfl
@[simp] theorem State.walkPast_classQueues (s : State) (slot : Nat) : (s.walkPast slot).classQueues = s.classQueues := rfl
@[simp] theorem State.walkPast_tickets (s : State) (slot : Nat) : (s.walkPast slot).tickets = s.tickets := rfl
@[simp] theorem State.walkPast_classes (s : State) (slot : Nat) : (s.walkPast slot).classes = s.classes := rfl
@[simp] theorem State.walkPast_tariffs (s : State) (slot : Nat) : (s.walkPast slot).tariffs = s.tariffs := rfl
@[simp] theorem State.walkPast_schedule (s : State) (slot : Nat) : (s.walkPast slot).schedule = s.schedule := rfl
@[simp] theorem State.walkPast_control (s : State) (slot : Nat) : (s.walkPast slot).control = s.control := rfl
@[simp] theorem State.walkPast_clock (s : State) (slot : Nat) : (s.walkPast slot).clock = { s.clock with cursor := slot + 1, closes := s.clock.closes + 1 } := rfl
@[simp] theorem State.walkPast_lines (s : State) (slot : Nat) : (s.walkPast slot).lines = s.lines := rfl

/-! ### beginClosing: writes clock -/

@[simp] theorem State.beginClosing_pending (s : State) : (s.beginClosing).pending = s.pending := rfl
@[simp] theorem State.beginClosing_eventNo (s : State) : (s.beginClosing).eventNo = s.eventNo := rfl
@[simp] theorem State.beginClosing_now (s : State) : (s.beginClosing).now = s.now := rfl
@[simp] theorem State.beginClosing_trunk (s : State) : (s.beginClosing).trunk = s.trunk := rfl
@[simp] theorem State.beginClosing_queue (s : State) : (s.beginClosing).queue = s.queue := rfl
@[simp] theorem State.beginClosing_alerts (s : State) : (s.beginClosing).alerts = s.alerts := rfl
@[simp] theorem State.beginClosing_watches (s : State) : (s.beginClosing).watches = s.watches := rfl
@[simp] theorem State.beginClosing_spurs (s : State) : (s.beginClosing).spurs = s.spurs := rfl
@[simp] theorem State.beginClosing_visit (s : State) : (s.beginClosing).visit = s.visit := rfl
@[simp] theorem State.beginClosing_lockers (s : State) : (s.beginClosing).lockers = s.lockers := rfl
@[simp] theorem State.beginClosing_zones (s : State) : (s.beginClosing).zones = s.zones := rfl
@[simp] theorem State.beginClosing_rotors (s : State) : (s.beginClosing).rotors = s.rotors := rfl
@[simp] theorem State.beginClosing_cabins (s : State) : (s.beginClosing).cabins = s.cabins := rfl
@[simp] theorem State.beginClosing_cabinClasses (s : State) : (s.beginClosing).cabinClasses = s.cabinClasses := rfl
@[simp] theorem State.beginClosing_classQueues (s : State) : (s.beginClosing).classQueues = s.classQueues := rfl
@[simp] theorem State.beginClosing_tickets (s : State) : (s.beginClosing).tickets = s.tickets := rfl
@[simp] theorem State.beginClosing_classes (s : State) : (s.beginClosing).classes = s.classes := rfl
@[simp] theorem State.beginClosing_tariffs (s : State) : (s.beginClosing).tariffs = s.tariffs := rfl
@[simp] theorem State.beginClosing_schedule (s : State) : (s.beginClosing).schedule = s.schedule := rfl
@[simp] theorem State.beginClosing_control (s : State) : (s.beginClosing).control = s.control := rfl
@[simp] theorem State.beginClosing_clock (s : State) : (s.beginClosing).clock = { s.clock with day := .closing, cursor := 0, walk := .due, closes := 0 } := rfl
@[simp] theorem State.beginClosing_lines (s : State) : (s.beginClosing).lines = s.lines := rfl

/-! ### putAssembly: writes trunk -/

@[simp] theorem State.putAssembly_pending (s : State) (a : Assembly) : (s.putAssembly a).pending = s.pending := rfl
@[simp] theorem State.putAssembly_eventNo (s : State) (a : Assembly) : (s.putAssembly a).eventNo = s.eventNo := rfl
@[simp] theorem State.putAssembly_now (s : State) (a : Assembly) : (s.putAssembly a).now = s.now := rfl
@[simp] theorem State.putAssembly_trunk (s : State) (a : Assembly) : (s.putAssembly a).trunk = { s.trunk with assembly := a } := rfl
@[simp] theorem State.putAssembly_queue (s : State) (a : Assembly) : (s.putAssembly a).queue = s.queue := rfl
@[simp] theorem State.putAssembly_alerts (s : State) (a : Assembly) : (s.putAssembly a).alerts = s.alerts := rfl
@[simp] theorem State.putAssembly_watches (s : State) (a : Assembly) : (s.putAssembly a).watches = s.watches := rfl
@[simp] theorem State.putAssembly_spurs (s : State) (a : Assembly) : (s.putAssembly a).spurs = s.spurs := rfl
@[simp] theorem State.putAssembly_visit (s : State) (a : Assembly) : (s.putAssembly a).visit = s.visit := rfl
@[simp] theorem State.putAssembly_lockers (s : State) (a : Assembly) : (s.putAssembly a).lockers = s.lockers := rfl
@[simp] theorem State.putAssembly_zones (s : State) (a : Assembly) : (s.putAssembly a).zones = s.zones := rfl
@[simp] theorem State.putAssembly_rotors (s : State) (a : Assembly) : (s.putAssembly a).rotors = s.rotors := rfl
@[simp] theorem State.putAssembly_cabins (s : State) (a : Assembly) : (s.putAssembly a).cabins = s.cabins := rfl
@[simp] theorem State.putAssembly_cabinClasses (s : State) (a : Assembly) : (s.putAssembly a).cabinClasses = s.cabinClasses := rfl
@[simp] theorem State.putAssembly_classQueues (s : State) (a : Assembly) : (s.putAssembly a).classQueues = s.classQueues := rfl
@[simp] theorem State.putAssembly_tickets (s : State) (a : Assembly) : (s.putAssembly a).tickets = s.tickets := rfl
@[simp] theorem State.putAssembly_classes (s : State) (a : Assembly) : (s.putAssembly a).classes = s.classes := rfl
@[simp] theorem State.putAssembly_tariffs (s : State) (a : Assembly) : (s.putAssembly a).tariffs = s.tariffs := rfl
@[simp] theorem State.putAssembly_schedule (s : State) (a : Assembly) : (s.putAssembly a).schedule = s.schedule := rfl
@[simp] theorem State.putAssembly_control (s : State) (a : Assembly) : (s.putAssembly a).control = s.control := rfl
@[simp] theorem State.putAssembly_clock (s : State) (a : Assembly) : (s.putAssembly a).clock = s.clock := rfl
@[simp] theorem State.putAssembly_lines (s : State) (a : Assembly) : (s.putAssembly a).lines = s.lines := rfl

/-! ### joinReply: writes trunk -/

@[simp] theorem State.joinReply_pending (s : State) (r : Reply) : (s.joinReply r).pending = s.pending := rfl
@[simp] theorem State.joinReply_eventNo (s : State) (r : Reply) : (s.joinReply r).eventNo = s.eventNo := rfl
@[simp] theorem State.joinReply_now (s : State) (r : Reply) : (s.joinReply r).now = s.now := rfl
@[simp] theorem State.joinReply_trunk (s : State) (r : Reply) : (s.joinReply r).trunk = { s.trunk with replies := s.trunk.replies ++ [r] } := rfl
@[simp] theorem State.joinReply_queue (s : State) (r : Reply) : (s.joinReply r).queue = s.queue := rfl
@[simp] theorem State.joinReply_alerts (s : State) (r : Reply) : (s.joinReply r).alerts = s.alerts := rfl
@[simp] theorem State.joinReply_watches (s : State) (r : Reply) : (s.joinReply r).watches = s.watches := rfl
@[simp] theorem State.joinReply_spurs (s : State) (r : Reply) : (s.joinReply r).spurs = s.spurs := rfl
@[simp] theorem State.joinReply_visit (s : State) (r : Reply) : (s.joinReply r).visit = s.visit := rfl
@[simp] theorem State.joinReply_lockers (s : State) (r : Reply) : (s.joinReply r).lockers = s.lockers := rfl
@[simp] theorem State.joinReply_zones (s : State) (r : Reply) : (s.joinReply r).zones = s.zones := rfl
@[simp] theorem State.joinReply_rotors (s : State) (r : Reply) : (s.joinReply r).rotors = s.rotors := rfl
@[simp] theorem State.joinReply_cabins (s : State) (r : Reply) : (s.joinReply r).cabins = s.cabins := rfl
@[simp] theorem State.joinReply_cabinClasses (s : State) (r : Reply) : (s.joinReply r).cabinClasses = s.cabinClasses := rfl
@[simp] theorem State.joinReply_classQueues (s : State) (r : Reply) : (s.joinReply r).classQueues = s.classQueues := rfl
@[simp] theorem State.joinReply_tickets (s : State) (r : Reply) : (s.joinReply r).tickets = s.tickets := rfl
@[simp] theorem State.joinReply_classes (s : State) (r : Reply) : (s.joinReply r).classes = s.classes := rfl
@[simp] theorem State.joinReply_tariffs (s : State) (r : Reply) : (s.joinReply r).tariffs = s.tariffs := rfl
@[simp] theorem State.joinReply_schedule (s : State) (r : Reply) : (s.joinReply r).schedule = s.schedule := rfl
@[simp] theorem State.joinReply_control (s : State) (r : Reply) : (s.joinReply r).control = s.control := rfl
@[simp] theorem State.joinReply_clock (s : State) (r : Reply) : (s.joinReply r).clock = s.clock := rfl
@[simp] theorem State.joinReply_lines (s : State) (r : Reply) : (s.joinReply r).lines = s.lines := rfl

/-! ### dropReply: writes trunk -/

@[simp] theorem State.dropReply_pending (s : State) : (s.dropReply).pending = s.pending := rfl
@[simp] theorem State.dropReply_eventNo (s : State) : (s.dropReply).eventNo = s.eventNo := rfl
@[simp] theorem State.dropReply_now (s : State) : (s.dropReply).now = s.now := rfl
@[simp] theorem State.dropReply_trunk (s : State) : (s.dropReply).trunk = { s.trunk with replies := s.trunk.replies.drop 1 } := rfl
@[simp] theorem State.dropReply_queue (s : State) : (s.dropReply).queue = s.queue := rfl
@[simp] theorem State.dropReply_alerts (s : State) : (s.dropReply).alerts = s.alerts := rfl
@[simp] theorem State.dropReply_watches (s : State) : (s.dropReply).watches = s.watches := rfl
@[simp] theorem State.dropReply_spurs (s : State) : (s.dropReply).spurs = s.spurs := rfl
@[simp] theorem State.dropReply_visit (s : State) : (s.dropReply).visit = s.visit := rfl
@[simp] theorem State.dropReply_lockers (s : State) : (s.dropReply).lockers = s.lockers := rfl
@[simp] theorem State.dropReply_zones (s : State) : (s.dropReply).zones = s.zones := rfl
@[simp] theorem State.dropReply_rotors (s : State) : (s.dropReply).rotors = s.rotors := rfl
@[simp] theorem State.dropReply_cabins (s : State) : (s.dropReply).cabins = s.cabins := rfl
@[simp] theorem State.dropReply_cabinClasses (s : State) : (s.dropReply).cabinClasses = s.cabinClasses := rfl
@[simp] theorem State.dropReply_classQueues (s : State) : (s.dropReply).classQueues = s.classQueues := rfl
@[simp] theorem State.dropReply_tickets (s : State) : (s.dropReply).tickets = s.tickets := rfl
@[simp] theorem State.dropReply_classes (s : State) : (s.dropReply).classes = s.classes := rfl
@[simp] theorem State.dropReply_tariffs (s : State) : (s.dropReply).tariffs = s.tariffs := rfl
@[simp] theorem State.dropReply_schedule (s : State) : (s.dropReply).schedule = s.schedule := rfl
@[simp] theorem State.dropReply_control (s : State) : (s.dropReply).control = s.control := rfl
@[simp] theorem State.dropReply_clock (s : State) : (s.dropReply).clock = s.clock := rfl
@[simp] theorem State.dropReply_lines (s : State) : (s.dropReply).lines = s.lines := rfl

/-! ### freeTransmitter: writes trunk -/

@[simp] theorem State.freeTransmitter_pending (s : State) : (s.freeTransmitter).pending = s.pending := rfl
@[simp] theorem State.freeTransmitter_eventNo (s : State) : (s.freeTransmitter).eventNo = s.eventNo := rfl
@[simp] theorem State.freeTransmitter_now (s : State) : (s.freeTransmitter).now = s.now := rfl
@[simp] theorem State.freeTransmitter_trunk (s : State) : (s.freeTransmitter).trunk = { s.trunk with arbiter := .idle, txFrame := [] } := rfl
@[simp] theorem State.freeTransmitter_queue (s : State) : (s.freeTransmitter).queue = s.queue := rfl
@[simp] theorem State.freeTransmitter_alerts (s : State) : (s.freeTransmitter).alerts = s.alerts := rfl
@[simp] theorem State.freeTransmitter_watches (s : State) : (s.freeTransmitter).watches = s.watches := rfl
@[simp] theorem State.freeTransmitter_spurs (s : State) : (s.freeTransmitter).spurs = s.spurs := rfl
@[simp] theorem State.freeTransmitter_visit (s : State) : (s.freeTransmitter).visit = s.visit := rfl
@[simp] theorem State.freeTransmitter_lockers (s : State) : (s.freeTransmitter).lockers = s.lockers := rfl
@[simp] theorem State.freeTransmitter_zones (s : State) : (s.freeTransmitter).zones = s.zones := rfl
@[simp] theorem State.freeTransmitter_rotors (s : State) : (s.freeTransmitter).rotors = s.rotors := rfl
@[simp] theorem State.freeTransmitter_cabins (s : State) : (s.freeTransmitter).cabins = s.cabins := rfl
@[simp] theorem State.freeTransmitter_cabinClasses (s : State) : (s.freeTransmitter).cabinClasses = s.cabinClasses := rfl
@[simp] theorem State.freeTransmitter_classQueues (s : State) : (s.freeTransmitter).classQueues = s.classQueues := rfl
@[simp] theorem State.freeTransmitter_tickets (s : State) : (s.freeTransmitter).tickets = s.tickets := rfl
@[simp] theorem State.freeTransmitter_classes (s : State) : (s.freeTransmitter).classes = s.classes := rfl
@[simp] theorem State.freeTransmitter_tariffs (s : State) : (s.freeTransmitter).tariffs = s.tariffs := rfl
@[simp] theorem State.freeTransmitter_schedule (s : State) : (s.freeTransmitter).schedule = s.schedule := rfl
@[simp] theorem State.freeTransmitter_control (s : State) : (s.freeTransmitter).control = s.control := rfl
@[simp] theorem State.freeTransmitter_clock (s : State) : (s.freeTransmitter).clock = s.clock := rfl
@[simp] theorem State.freeTransmitter_lines (s : State) : (s.freeTransmitter).lines = s.lines := rfl

/-! ### release: writes queue -/

@[simp] theorem State.release_pending (s : State) : (s.release).pending = s.pending := rfl
@[simp] theorem State.release_eventNo (s : State) : (s.release).eventNo = s.eventNo := rfl
@[simp] theorem State.release_now (s : State) : (s.release).now = s.now := rfl
@[simp] theorem State.release_trunk (s : State) : (s.release).trunk = s.trunk := rfl
@[simp] theorem State.release_queue (s : State) : (s.release).queue = { s.queue with reserved := s.queue.reserved - 1 } := rfl
@[simp] theorem State.release_alerts (s : State) : (s.release).alerts = s.alerts := rfl
@[simp] theorem State.release_watches (s : State) : (s.release).watches = s.watches := rfl
@[simp] theorem State.release_spurs (s : State) : (s.release).spurs = s.spurs := rfl
@[simp] theorem State.release_visit (s : State) : (s.release).visit = s.visit := rfl
@[simp] theorem State.release_lockers (s : State) : (s.release).lockers = s.lockers := rfl
@[simp] theorem State.release_zones (s : State) : (s.release).zones = s.zones := rfl
@[simp] theorem State.release_rotors (s : State) : (s.release).rotors = s.rotors := rfl
@[simp] theorem State.release_cabins (s : State) : (s.release).cabins = s.cabins := rfl
@[simp] theorem State.release_cabinClasses (s : State) : (s.release).cabinClasses = s.cabinClasses := rfl
@[simp] theorem State.release_classQueues (s : State) : (s.release).classQueues = s.classQueues := rfl
@[simp] theorem State.release_tickets (s : State) : (s.release).tickets = s.tickets := rfl
@[simp] theorem State.release_classes (s : State) : (s.release).classes = s.classes := rfl
@[simp] theorem State.release_tariffs (s : State) : (s.release).tariffs = s.tariffs := rfl
@[simp] theorem State.release_schedule (s : State) : (s.release).schedule = s.schedule := rfl
@[simp] theorem State.release_control (s : State) : (s.release).control = s.control := rfl
@[simp] theorem State.release_clock (s : State) : (s.release).clock = s.clock := rfl
@[simp] theorem State.release_lines (s : State) : (s.release).lines = s.lines := rfl

/-! ### dropRecord: writes queue -/

@[simp] theorem State.dropRecord_pending (s : State) : (s.dropRecord).pending = s.pending := rfl
@[simp] theorem State.dropRecord_eventNo (s : State) : (s.dropRecord).eventNo = s.eventNo := rfl
@[simp] theorem State.dropRecord_now (s : State) : (s.dropRecord).now = s.now := rfl
@[simp] theorem State.dropRecord_trunk (s : State) : (s.dropRecord).trunk = s.trunk := rfl
@[simp] theorem State.dropRecord_queue (s : State) : (s.dropRecord).queue = { s.queue with records := s.queue.records.drop 1 } := rfl
@[simp] theorem State.dropRecord_alerts (s : State) : (s.dropRecord).alerts = s.alerts := rfl
@[simp] theorem State.dropRecord_watches (s : State) : (s.dropRecord).watches = s.watches := rfl
@[simp] theorem State.dropRecord_spurs (s : State) : (s.dropRecord).spurs = s.spurs := rfl
@[simp] theorem State.dropRecord_visit (s : State) : (s.dropRecord).visit = s.visit := rfl
@[simp] theorem State.dropRecord_lockers (s : State) : (s.dropRecord).lockers = s.lockers := rfl
@[simp] theorem State.dropRecord_zones (s : State) : (s.dropRecord).zones = s.zones := rfl
@[simp] theorem State.dropRecord_rotors (s : State) : (s.dropRecord).rotors = s.rotors := rfl
@[simp] theorem State.dropRecord_cabins (s : State) : (s.dropRecord).cabins = s.cabins := rfl
@[simp] theorem State.dropRecord_cabinClasses (s : State) : (s.dropRecord).cabinClasses = s.cabinClasses := rfl
@[simp] theorem State.dropRecord_classQueues (s : State) : (s.dropRecord).classQueues = s.classQueues := rfl
@[simp] theorem State.dropRecord_tickets (s : State) : (s.dropRecord).tickets = s.tickets := rfl
@[simp] theorem State.dropRecord_classes (s : State) : (s.dropRecord).classes = s.classes := rfl
@[simp] theorem State.dropRecord_tariffs (s : State) : (s.dropRecord).tariffs = s.tariffs := rfl
@[simp] theorem State.dropRecord_schedule (s : State) : (s.dropRecord).schedule = s.schedule := rfl
@[simp] theorem State.dropRecord_control (s : State) : (s.dropRecord).control = s.control := rfl
@[simp] theorem State.dropRecord_clock (s : State) : (s.dropRecord).clock = s.clock := rfl
@[simp] theorem State.dropRecord_lines (s : State) : (s.dropRecord).lines = s.lines := rfl

/-! ### Reads after writes -/

@[simp] theorem State.band?_putBand_self (s : State) (slot : Nat) (b : Band) : (s.putBand slot b).band? slot = some b :=
  Table.get?_put_self ..

@[simp] theorem State.locker?_putLocker_self (s : State) (n : Fin 1024) (l : Locker) :
    (s.putLocker n l).locker? n = some l := Table.get?_put_self ..

theorem State.locker?_putLocker_ne (s : State) {n m : Fin 1024} (h : m ≠ n) (l : Locker) :
    (s.putLocker n l).locker? m = s.locker? m := Table.get?_put_ne (fun e => h (Fin.ext e)) ..

@[simp] theorem State.cabin?_putCabin_self (s : State) (n : Fin 64) (c : Cabin) :
    (s.putCabin n c).cabin? n = some c := Table.get?_put_self ..

theorem State.cabin?_putCabin_ne (s : State) {n m : Fin 64} (h : m ≠ n) (c : Cabin) :
    (s.putCabin n c).cabin? m = s.cabin? m := Table.get?_put_ne (fun e => h (Fin.ext e)) ..

@[simp] theorem State.spur_putSpur_self (s : State) (sp : Fin 4) (p : Spur) : (s.putSpur sp p).spur sp = p := by
  simp [State.spur]

theorem State.spur_putSpur_ne (s : State) {sp q : Fin 4} (h : q ≠ sp) (p : Spur) :
    (s.putSpur sp p).spur q = s.spur q := by
  have hv : sp.val ≠ q.val := fun e => h (Fin.ext e.symm)
  simp [State.spur, Vector.getElem_set_ne, hv]

@[simp] theorem State.latch_putLatch_self (s : State) (c : AlertClass) (l : Latch) : (s.putLatch c l).latch c = l := by
  simp [State.latch]

@[simp] theorem State.classQueue_putClassQueue_self (s : State) (k : Fin 4) (q : List QueueEntry) :
    (s.putClassQueue k q).classQueue k = q := by simp [State.classQueue]

@[simp] theorem State.putBand_putBand (s : State) (slot : Nat) (a b : Band) :
    (s.putBand slot a).putBand slot b = s.putBand slot b := by simp [State.putBand]

@[simp] theorem State.putLocker_putLocker (s : State) (n : Fin 1024) (a b : Locker) :
    (s.putLocker n a).putLocker n b = s.putLocker n b := by simp [State.putLocker]

@[simp] theorem State.putCabin_putCabin (s : State) (n : Fin 64) (a b : Cabin) :
    (s.putCabin n a).putCabin n b = s.putCabin n b := by simp [State.putCabin]

/-! ### Changes at a key that is listed -/

theorem State.modBand_of (s : State) {slot : Nat} {b : Band} (h : s.band? slot = some b) (f : Band → Band) :
    s.modBand slot f = s.putBand slot (f b) := by simp [State.modBand, h]

theorem State.modLocker_of (s : State) {n : Fin 1024} {l : Locker} (h : s.locker? n = some l) (f : Locker → Locker) :
    s.modLocker n f = s.putLocker n (f l) := by simp [State.modLocker, h]

theorem State.modCabin_of (s : State) {n : Fin 64} {c : Cabin} (h : s.cabin? n = some c) (f : Cabin → Cabin) :
    s.modCabin n f = s.putCabin n (f c) := by simp [State.modCabin, h]

end Sys2Proof.Machine
end

