-- ==== Sys2Proof/Laws/Kept.lean ====
section
/-! SUPPORT. What a step can do to a property: a property kept by each primitive change of the state, under the facts
that hold where the model makes it, is kept by every operation built from them, and so by every command. -/
namespace Sys2Proof.Machine

set_option Elab.async false

/-- A property of states kept by each primitive change that a tap, a report, a deadline or a removal makes. -/
structure KeptCore (P : State → Prop) : Prop where
  time : ∀ {s n}, P s → P { s with now := n }
  alerts : ∀ {s v}, P s → P { s with alerts := v }
  watches : ∀ {s v}, P s → P { s with watches := v }
  write : ∀ {s b t}, State.write? s b = some t → P s → P t
  reserve : ∀ {s t}, State.reserve? s = some t → P s → P t
  writeReserve : ∀ {s b t}, State.writeReserve? s b = some t → P s → P t
  convert : ∀ {s b}, P s → P (State.convert s b)
  release : ∀ {s}, P s → P (State.release s)
  putLocker : ∀ {s n l}, P s → P (State.putLocker s n l)
  putCabin : ∀ {s n c}, P s → P (State.putCabin s n c)
  rotors : ∀ {s v}, P s → P { s with rotors := v }
  classQueues : ∀ {s v}, P s → P { s with classQueues := v }
  tickets : ∀ {s v}, P s → P { s with tickets := v }
  modBand : ∀ {s slot f}, (∀ b : Band, (f b).serial = b.serial) → P s → P (State.modBand s slot f)
  dropBand : ∀ {s slot}, P s → P (State.dropBand s slot)
  modHead : ∀ {s sp a f}, (∀ h : Head, listBounded h.items → listBounded (f h).items) → P s → P (State.modHead s sp a f)
  port : ∀ {s sp p}, p.heads = (s.spur sp).heads → P s → P (State.putSpur s sp p)
  transmit : ∀ {s a tx n}, P s → P { s with trunk := { s.trunk with arbiter := a, txFrame := tx, frameNumber := n } }

/-- A property of states kept by each primitive change that a tap, a report, a deadline, a removal or the owner of a
trunk command makes. -/
structure KeptOwner (P : State → Prop) : Prop extends KeptCore P where
  paused : ∀ {s b}, P s → P { s with queue := { s.queue with paused := b } }
  dropLocker : ∀ {s n}, P s → P (State.dropLocker s n)
  dropCabin : ∀ {s n}, P s → P (State.dropCabin s n)
  zones : ∀ {s v}, P s → P { s with zones := v }
  cabinClasses : ∀ {s v}, P s → P { s with cabinClasses := v }
  classes : ∀ {s v}, P s → P { s with classes := v }
  tariffs : ∀ {s v}, P s → P { s with tariffs := v }
  schedule : ∀ {s v}, P s → P { s with schedule := v }
  control : ∀ {s v}, P s → P { s with control := v }
  lines : ∀ {s v}, P s → P { s with lines := v }
  issue : ∀ {s b}, s.clock.day = .opened → (s.findBand b.serial).isSome = false → validSerial b.serial = true →
    s.visit.length < Config.bandSlots → P s → P (State.putBand s (State.freeSlot s) b)
  rename : ∀ {s slot b old new}, s.findBand old = some (slot, b) → (s.findBand new).isSome = false →
    validSerial new = true → P s → P (State.rename s slot old new)
  evacuation : ∀ {s on}, P s → P (State.setEvacuation s on)
  timeSet : ∀ {s m}, P s → P { s with clock := { s.clock with minuteOfDay := some m } }
  openDay : ∀ {s m n}, s.clock.day = .closed → s.clock.minuteOfDay = some m → P s →
    P { s with clock := { s.clock with day := .opened, siteMinute := 0, minuteDue := n } }
  beginClosing : ∀ {s}, s.clock.day = .opened → P s → P (State.beginClosing s)
  makeHead : ∀ {s sp a e}, P s → P (State.putHead s sp a (Head.fresh e))
  dropHead : ∀ {s sp a}, P s → P (State.dropHead s sp a)
  restartPort : ∀ {s sp n}, P s → P (State.putSpur s sp ((s.spur sp).restarted n))

/-- A property of states kept by each primitive change a command makes, its count apart. -/
structure KeptEvent (P : State → Prop) : Prop extends KeptOwner P where
  assembly : ∀ {s a}, P s → P (State.putAssembly s a)
  reset : ∀ {s straps}, P s → P (State.coldReset s straps)
  dropRecord : ∀ {s}, P s → P (State.dropRecord s)
  minute : ∀ {s}, P s → P { s with clock := s.clock.advance }
  walkWaits : ∀ {s}, s.clock.walk = .due → P s → P (State.setWalk s .waiting)
  walkWakes : ∀ {s}, s.clock.walk = .waiting → P s → P (State.setWalk s .due)
  walkPast : ∀ {s s1 slot b r}, s.clock.walk = .due → Table.firstFrom s.clock.cursor s.visit = some (slot, b) →
    State.write? s r = some s1 → P s → P (s1.remove slot) → P ((s1.remove slot).walkPast slot)
  closeDay : ∀ {s}, s.clock.walk = .due → Table.firstFrom s.clock.cursor s.visit = none → P s →
    P { s with clock := { s.clock with day := .closed, cursor := 0, walk := .idle } }
  joinReply : ∀ {s r}, s.trunk.replies.length < Config.replyPlaces → P s → P (State.joinReply s r)
  dropReply : ∀ {s}, P s → P (State.dropReply s)

/-- A property of states kept by each primitive change the model makes. -/
structure Kept (P : State → Prop) : Prop extends KeptEvent P where
  count : ∀ {s n}, P s → P { s with eventNo := n }
  pop : ∀ {s q}, P s → P { s with pending := q }

/-! ## Lists of items (R166) -/

theorem listBounded_nil : listBounded [] := ⟨by decide, fun _ => ⟨by simp, by simp⟩⟩

/-- A list of the given length with at most one of each kind. -/
theorem listBounded_of_le {a b : List CmdItem} (h : listBounded a) (hl : b.length ≤ a.length)
    (hs : ∀ i, b.countP (CmdItem.showsAt i) ≤ a.countP (CmdItem.showsAt i))
    (ha : ∀ i, b.countP (CmdItem.actuates i) ≤ a.countP (CmdItem.actuates i)) : listBounded b :=
  ⟨Nat.le_trans hl h.1, fun i => ⟨Nat.le_trans (hs i) (h.2 i).1, Nat.le_trans (ha i) (h.2 i).2⟩⟩

/-- Part of a bounded list, in its order, is bounded. -/
theorem listBounded_sublist {a b : List CmdItem} (h : listBounded a) (hb : b.Sublist a) : listBounded b :=
  listBounded_of_le h hb.length_le (fun _ => hb.countP_le) (fun _ => hb.countP_le)

/-- An IDENT joins a bounded list that has a place. -/
theorem listBounded_ident {a : List CmdItem} (h : listBounded a) (hl : a.length < 16) : listBounded (a ++ [.ident]) :=
  ⟨by simp [Config.commandItems]; omega, fun i => by simpa [CmdItem.showsAt, CmdItem.actuates] using h.2 i⟩

/-- What replaces an item counts as that item does. -/
theorem showsAt_of_replaces {x y : CmdItem} (h : x.replaces y = true) (i : Fin 8) : x.showsAt i = y.showsAt i := by
  cases x <;> cases y <;> simp_all [CmdItem.replaces, CmdItem.showsAt]

theorem actuates_of_replaces {x y : CmdItem} (h : x.replaces y = true) (i : Fin 8) : x.actuates i = y.actuates i := by
  cases x <;> cases y <;> simp_all [CmdItem.replaces, CmdItem.actuates]

/-- Two items of one kind at one place replace each other. -/
theorem replaces_of_showsAt {x y : CmdItem} {i : Fin 8} (hx : x.showsAt i = true) (hy : y.showsAt i = true) :
    x.replaces y = true := by
  cases x <;> cases y <;> simp_all [CmdItem.replaces, CmdItem.showsAt]

theorem replaces_of_actuates {x y : CmdItem} {i : Fin 8} (hx : x.actuates i = true) (hy : y.actuates i = true) :
    x.replaces y = true := by
  cases x <;> cases y <;> simp_all [CmdItem.replaces, CmdItem.actuates]

/-- A count over a list with one item put in the place of those it replaces. -/
theorem countP_replaced (it : CmdItem) (p : CmdItem → Bool) (hp : ∀ y, it.replaces y = true → p it = p y)
    (l : List CmdItem) : (l.map (fun x => if it.replaces x then it else x)).countP p = l.countP p := by
  induction l with
  | nil => rfl
  | cons y l ih =>
    by_cases h : it.replaces y = true
    · simp [h, List.countP_cons, ih, hp y h]
    · simp [h, List.countP_cons, ih]

/-- Placing an item keeps the bounds (R166). -/
theorem listBounded_place {h : Head} {it : CmdItem} (hb : listBounded h.items) : listBounded (h.place it).items := by
  unfold Head.place
  split
  · exact listBounded_of_le hb (by simp)
      (fun i => Nat.le_of_eq (countP_replaced it _ (fun y hy => showsAt_of_replaces hy i) _))
      (fun i => Nat.le_of_eq (countP_replaced it _ (fun y hy => actuates_of_replaces hy i) _))
  · rename_i hn
    have hz : ∀ i, (it.showsAt i = true → h.items.countP (CmdItem.showsAt i) = 0)
        ∧ (it.actuates i = true → h.items.countP (CmdItem.actuates i) = 0) := by
      intro i
      refine ⟨fun hi => List.countP_eq_zero.mpr (fun y hy e => hn ?_),
        fun hi => List.countP_eq_zero.mpr (fun y hy e => hn ?_)⟩
      · exact List.any_eq_true.mpr ⟨y, hy, replaces_of_showsAt hi e⟩
      · exact List.any_eq_true.mpr ⟨y, hy, replaces_of_actuates hi e⟩
    have hone : ∀ (l : List CmdItem), l.Sublist h.items → ∀ i,
        (l ++ [it]).countP (CmdItem.showsAt i) ≤ 1 ∧ (l ++ [it]).countP (CmdItem.actuates i) ≤ 1 := by
      intro l hl i
      have h1 := hl.countP_le (p := CmdItem.showsAt i)
      have h2 := hl.countP_le (p := CmdItem.actuates i)
      have hbi := hb.2 i
      have hzi := hz i
      simp only [List.countP_append, List.countP_singleton]
      constructor
      · split
        · have := hzi.1 (by assumption); omega
        · omega
      · split
        · have := hzi.2 (by assumption); omega
        · omega
    split
    · rename_i hl
      exact ⟨by simp [Config.commandItems] at hl ⊢; omega, hone _ (List.Sublist.refl _)⟩
    · split
      · exact hb
      · split
        · rename_i hc
          refine ⟨?_, hone _ List.erase_sublist⟩
          have hm : CmdItem.ident ∈ h.items := by simpa using hc
          have := hb.1
          simp only [List.length_append, List.length_erase_of_mem hm, List.length_singleton]
          have := List.length_pos_of_mem hm
          omega
        · exact hb

/-- An owed IDENT placed keeps the bounds. -/
theorem listBounded_payOwed {h : Head} (hb : listBounded h.items) : listBounded h.payOwed.items := by
  unfold Head.payOwed
  split
  · rename_i hc; simp [Config.commandItems] at hc; exact listBounded_ident hb (of_decide_eq_true hc.2)
  · exact hb

/-- A withdrawal keeps the bounds. -/
theorem listBounded_withdraw {h : Head} {d : Fin 8} (hb : listBounded h.items) : listBounded (h.withdraw d).items := by
  unfold Head.withdraw
  dsimp only
  split
  · exact listBounded_payOwed (listBounded_sublist hb List.filter_sublist)
  · exact hb

/-- A poll that carries items out keeps the bounds. -/
theorem listBounded_afterPoll {h : Head} (hb : listBounded h.items) : listBounded h.afterPoll.items := by
  unfold Head.afterPoll
  split
  · exact hb
  · exact listBounded_payOwed (listBounded_sublist hb (List.drop_sublist ..))

/-- A good reply keeps the bounds. -/
theorem listBounded_goodReply {h : Head} {m : Bool} {t : Option Nat} (hb : listBounded h.items) :
    listBounded (h.goodReply m t).items := by
  unfold Head.goodReply
  dsimp only
  split
  · exact listBounded_place hb
  · exact hb
  · exact hb

/-- The choice of the next head leaves the heads. -/
theorem choose_heads {p p1 : Spur} {a : Fin 32} (h : p.choose = some (a, p1)) : p1.heads = p.heads := by
  have hn : ∀ r, p.nextIn r = some (a, p1) → p1.heads = p.heads := by
    intro r hr
    unfold Spur.nextIn at hr
    simp only [Option.or_eq_some_iff] at hr
    rcases hr with (hr | ⟨_, hr⟩) | ⟨_, hr⟩
    · unfold Spur.fastTurn at hr; split at hr <;> simp at hr; rw [← hr.2]
    · unfold Spur.promotedTurn at hr; split at hr <;> try simp at hr
      split at hr <;> simp at hr; rw [← hr.2]
    · unfold Spur.sharedTurn at hr; split at hr <;> simp at hr; rw [← hr.2]
  unfold Spur.choose at h
  split at h
  · simp only [Option.or_eq_some_iff] at h
    rcases h with h | ⟨_, h⟩ <;> exact hn _ h
  · exact hn _ h

/-- A property each turn of a fold keeps is kept by the fold. -/
theorem keptFoldl {P : State → Prop} {α : Type} {f : State → α → State} (hf : ∀ s a, P s → P (f s a)) (l : List α)
    {s : State} (h : P s) : P (l.foldl f s) := by
  induction l generalizing s with
  | nil => exact h
  | cons a l ih => exact ih (hf s a h)

namespace KeptCore

variable {P : State → Prop} (k : KeptCore P) {s : State}
include k

/-! ## Shared operations -/

theorem modSerial {x : Option Serial} {f : Band → Band} (hf : ∀ b : Band, (f b).serial = b.serial) (h : P s) :
    P (s.modSerial x f) := by
  unfold State.modSerial
  repeat' split
  all_goals first | with_reducible exact h | with_reducible exact k.modBand hf h

theorem modLocker {n : Fin 1024} {f : Locker → Locker} (h : P s) : P (s.modLocker n f) := by
  unfold State.modLocker; split
  · exact k.putLocker h
  · exact h

theorem modCabin {n : Fin 64} {f : Cabin → Cabin} (h : P s) : P (s.modCabin n f) := by
  unfold State.modCabin; split
  · exact k.putCabin h
  · exact h

theorem passTo {t : Nat} (h : P s) : P (s.passTo t) := k.time h

theorem alert {c : AlertClass} {x : AlertSubject} {d : AlertDetail} (h : P s) : P (s.alert c x d) := k.alerts h

theorem place {sp : Fin 4} {a : Fin 32} {it : CmdItem} (h : P s) : P (s.place sp a it) :=
  k.modHead (fun _ hb => listBounded_place hb) h

theorem answer {sp : Fin 4} {a : Fin 32} {r : Fin 8} {x : Signal} (h : P s) : P (s.answer sp a r x) := k.place h

theorem withdraw {d : DoorId} (h : P s) : P (s.withdraw d) := by
  unfold State.withdraw; split
  · exact k.modHead (fun _ hb => listBounded_withdraw hb) h
  · exact h

theorem setAction {d : DoorId} {a : Option Action} (h : P s) : P (s.setAction d a) := by
  unfold State.setAction; split
  · exact k.modLocker h
  · exact k.modCabin h

theorem startAttempt {d : DoorId} {a : Action} (h : P s) : P (s.startAttempt d a) := by
  unfold State.startAttempt
  cases s.doorHome d <;> first | exact k.place (k.setAction h) | exact k.setAction h

theorem handOver {d : DoorId} {dir : Direction} {p : Purpose} {x y : Option Serial} {b : Bool} (h : P s) :
    P (s.handOver d dir p x y b) := k.startAttempt h

theorem endAction {d : DoorId} (h : P s) : P (s.endAction d) := k.setAction (k.withdraw h)

/-! ## Cabins -/

theorem clearCabinLink {x : Option Serial} (h : P s) : P (s.clearCabinLink x) := k.modSerial (fun _ => rfl) h

theorem putClassQueue {q : Fin 4} {l : List QueueEntry} (h : P s) : P (s.putClassQueue q l) := k.classQueues h

theorem leaveQueue {q : Fin 4} {x : Serial} (h : P s) : P (s.leaveQueue q x) := k.classQueues h

theorem placeLamp {n : Fin 64} (h : P s) : P (s.placeLamp n) := by
  unfold State.placeLamp; split
  · exact k.place (k.putCabin h)
  · exact h

theorem followLamp {n : Fin 64} (h : P s) : P (s.followLamp n) := by
  unfold State.followLamp
  repeat' split
  all_goals first | with_reducible exact h | with_reducible exact k.placeLamp h

theorem callStep {n : Fin 64} (h : P s) : P (s.callStep n) := by
  unfold State.callStep
  repeat' split
  all_goals first
    | with_reducible exact h
    | with_reducible exact k.putCabin h
    | with_reducible exact k.answer (k.modSerial (fun _ => rfl) (k.putCabin (k.putClassQueue (k.reserve (by assumption) h))))

theorem evacuateIdle {n : Fin 64} (h : P s) : P (s.evacuateIdle n) := k.handOver (k.modCabin h)

theorem freeUp {n : Fin 64} (h : P s) : P (s.freeUp n) := by
  unfold State.freeUp
  dsimp only
  split
  · exact k.evacuateIdle (k.modCabin h)
  · exact k.callStep (k.modCabin (k.modCabin h))

theorem lapseCall {n : Fin 64} (h : P s) : P (s.lapseCall n) := by
  unfold State.lapseCall
  repeat' split
  all_goals first | with_reducible exact h | with_reducible exact k.freeUp (k.modCabin (k.clearCabinLink (k.convert h)))

theorem letIn {n : Fin 64} {c : Cabin} {slot : Nat} {b : Band} (h : P s) : P (s.letIn n c slot b) :=
  k.handOver (k.answer (k.modBand (fun _ => rfl) (k.putCabin h)))

theorem jamCabin {n : Fin 64} {p : Purpose} (h : P s) : P (s.jamCabin n p) := k.alert (k.modCabin h)

theorem occupy {n : Fin 64} {c : Cabin} (h : P s) : P (s.occupy n c) := by
  unfold State.occupy
  dsimp only
  split
  · exact k.convert (k.reserve (by assumption) (k.followLamp (k.putCabin h)))
  · exact k.followLamp (k.putCabin h)

theorem completeCabin {n : Fin 64} {a : Action} (h : P s) : P (s.completeCabin n a) := by
  unfold State.completeCabin
  repeat' split
  all_goals first
    | with_reducible exact h
    | with_reducible exact k.occupy h
    | with_reducible exact k.freeUp h
    | with_reducible exact k.freeUp (k.clearCabinLink (k.convert h))

theorem failCabin {n : Fin 64} {a : Action} (h : P s) : P (s.failCabin n a) := by
  unfold State.failCabin
  repeat' split
  all_goals first
    | with_reducible exact h
    | with_reducible exact k.jamCabin h
    | with_reducible exact k.alert h
    | with_reducible exact k.jamCabin (k.clearCabinLink (k.convert h))

/-! ## Lockers -/

theorem acquire {slot : Nat} {b : Band} {n : Fin 1024} (h : P s) : P (s.acquire slot b n) := by
  unfold State.acquire; split
  · exact k.modLocker (k.modBand (fun _ => rfl) h)
  · exact h

theorem releaseLocker {n : Fin 1024} (h : P s) : P (s.releaseLocker n) := by
  unfold State.releaseLocker; split
  · exact k.modLocker (k.modSerial (fun _ => rfl) h)
  · exact h

theorem enterInspect {n : Fin 1024} {c : InspectCause} (h : P s) : P (s.enterInspect n c) := k.alert (k.modLocker h)

theorem forcedDoor {n : Fin 1024} {x : LockerState} (h : P s) : P (s.forcedDoor n x) := k.alert h

theorem chargeClaim {l : Locker} (h : P s) : P (s.chargeClaim l) := k.modSerial (fun _ => rfl) h

theorem settleCompletion {n : Fin 1024} {l : Locker} {a : Action} (h : P s) : P (s.settleCompletion n l a) := by
  unfold State.settleCompletion
  repeat' split
  all_goals first
    | with_reducible exact k.enterInspect h
    | with_reducible exact k.modLocker h
    | with_reducible exact k.modLocker (k.chargeClaim h)

theorem completeLocker {n : Fin 1024} {a : Action} (h : P s) : P (s.completeLocker n a) := by
  unfold State.completeLocker; split
  · exact h
  · exact k.convert (k.settleCompletion h)

theorem failLocker {n : Fin 1024} {a : Action} (h : P s) : P (s.failLocker n a) := k.convert (k.alert (k.modLocker h))

theorem abandonLocker {n : Fin 1024} {a : Action} (h : P s) : P (s.abandonLocker n a) :=
  k.convert (k.modLocker (k.setAction h))

/-! ## Bolts and doors -/

theorem complete {d : DoorId} {a : Action} (h : P s) : P (s.complete d a) := by
  unfold State.complete; split
  · exact k.completeLocker (k.endAction h)
  · exact k.completeCabin (k.endAction h)

theorem finalFailure {d : DoorId} {a : Action} (h : P s) : P (s.finalFailure d a) := by
  unfold State.finalFailure; split
  · exact k.failLocker (k.endAction h)
  · exact k.failCabin (k.endAction h)

theorem failAttempt {d : DoorId} (h : P s) : P (s.failAttempt d) := by
  unfold State.failAttempt
  repeat' split
  all_goals first | with_reducible exact h | with_reducible exact k.startAttempt h | with_reducible exact k.finalFailure h

theorem dropAction {d : DoorId} (h : P s) : P (s.dropAction d) := by
  unfold State.dropAction; split
  · exact h
  · exact k.endAction h

theorem setBolt {d : DoorId} {b : Bolt} (h : P s) : P (s.setBolt d b) := by
  unfold State.setBolt; split
  · exact k.modLocker h
  · exact h

theorem takeResult {d : DoorId} {dir : Direction} {o : BoltOutcome} (h : P s) : P (s.takeResult d dir o) := by
  unfold State.takeResult
  dsimp only
  repeat' split
  all_goals first | with_reducible exact k.setBolt h | with_reducible exact k.failAttempt (k.setBolt h) | with_reducible exact k.complete (k.setBolt h)

theorem expireAttempt {d : DoorId} (h : P s) : P (s.expireAttempt d) := by
  unfold State.expireAttempt; split
  · exact h
  · exact k.failAttempt (k.setBolt (k.passTo h))

theorem autoRelock {n : Fin 1024} {l : Locker} (h : P s) : P (s.autoRelock n l) := by
  unfold State.autoRelock
  repeat' split
  all_goals first | with_reducible exact h | with_reducible exact k.handOver (k.reserve (by assumption) h)

theorem lockerDoor {n : Fin 1024} {d : Door} (h : P s) : P (s.lockerDoor n d) := by
  unfold State.lockerDoor
  dsimp only
  repeat' split
  all_goals first
    | with_reducible exact h
    | with_reducible exact k.putLocker h
    | with_reducible exact k.failAttempt (k.putLocker h)
    | with_reducible exact k.forcedDoor (k.putLocker h)
    | with_reducible exact k.autoRelock (k.putLocker h)

theorem vacate {n : Fin 64} (h : P s) : P (s.vacate n) := k.followLamp (k.modCabin h)

theorem handReset {n : Fin 64} (h : P s) : P (s.handReset n) := k.handOver h

theorem cabinDoor {n : Fin 64} {d : Door} (h : P s) : P (s.cabinDoor n d) := by
  unfold State.cabinDoor
  dsimp only
  repeat' split
  all_goals first
    | with_reducible exact h
    | with_reducible exact k.putCabin h
    | with_reducible exact k.handOver (k.modCabin (k.putCabin h))
    | with_reducible exact k.vacate (k.dropAction (k.putCabin h))
    | with_reducible exact k.handReset (k.putCabin h)
    | with_reducible exact k.failAttempt (k.putCabin h)

/-! ## Visits -/

theorem endQueueLink {slot : Nat} (h : P s) : P (s.endQueueLink slot) := by
  unfold State.endQueueLink
  repeat' split
  all_goals first | with_reducible exact h | with_reducible exact k.modBand (fun _ => rfl) (k.leaveQueue h)

theorem endCall {slot : Nat} (h : P s) : P (s.endCall slot) := by
  unfold State.endCall; split
  · exact k.lapseCall h
  · exact h

theorem bar {slot : Nat} (h : P s) : P (s.bar slot) := k.endCall (k.endQueueLink (k.modBand (fun _ => rfl) h))

theorem strike {slot : Nat} (h : P s) : P (s.strike slot) := by
  unfold State.strike
  dsimp only
  repeat' split
  all_goals first | with_reducible exact h | with_reducible exact k.modBand (fun _ => rfl) h | with_reducible exact k.alert (k.bar (k.modBand (fun _ => rfl) h))

theorem grant {slot : Nat} (h : P s) : P (s.grant slot) := k.modBand (fun _ => rfl) h

theorem settleLocker {n : Fin 1024} (h : P s) : P (s.settleLocker n) := by
  unfold State.settleLocker
  repeat' split
  all_goals first | with_reducible exact h | with_reducible exact k.putLocker h | with_reducible exact k.enterInspect h | with_reducible exact k.release (k.putLocker h)

theorem settleCabin {slot : Nat} (h : P s) : P (s.settleCabin slot) := by
  unfold State.settleCabin
  repeat' split
  all_goals first | with_reducible exact h | with_reducible exact k.lapseCall h | with_reducible exact k.modCabin h

/-- The removal routine before the record itself goes. -/
theorem settled {slot : Nat} {b : Band} (h : P s) :
    P (((b.holdings.foldl State.settleLocker s).settleCabin slot).endQueueLink slot) :=
  k.endQueueLink (k.settleCabin (keptFoldl (fun _ _ h => k.settleLocker h) _ h))

theorem remove {slot : Nat} (h : P s) : P (s.remove slot) := by
  unfold State.remove; split
  · exact h
  · exact k.dropBand (k.settled h)

/-! ## Taps -/

theorem answerTap {t : Tap} {x : Signal} (h : P s) : P (s.answerTap t x) := k.answer h

theorem red {t : Tap} {r : RedReason} (h : P s) : P (s.red t r) := k.answerTap h

theorem wait {t : Tap} (h : P s) : P (s.wait t) := k.answerTap h

theorem green {t : Tap} {slot : Nat} (h : P s) : P (s.green t slot) := k.answerTap (k.grant h)

theorem denyHolder {t : Tap} {slot : Nat} (h : P s) : P (s.denyHolder t slot) := k.red (k.strike h)

theorem fireWatch {x : Serial} {n : Option (Fin 1024)} {b : Bool} {i : Fin 8} (h : P s) : P (State.fireWatch x n b s i) := by
  unfold State.fireWatch
  repeat' split
  all_goals first | with_reducible exact h | with_reducible exact k.watches (k.alert h)

theorem fireWatches {x : Serial} {n : Option (Fin 1024)} {b : Bool} (h : P s) : P (s.fireWatches x n b) :=
  keptFoldl (fun _ _ h => k.fireWatch h) _ h

/-- The common front leaves the property, whichever way it ends. -/
theorem front {t : Tap} {ty : HeadType} {n : Option (Fin 1024)} (h : P s) :
    (∀ s1, s.front t ty n = .ended s1 → P s1) ∧ ∀ s1 slot b, s.front t ty n = .passed s1 slot b → P s1 := by
  unfold State.front
  dsimp only
  repeat' split
  all_goals
    refine ⟨fun s1 e => ?_, fun s1 slot b e => ?_⟩ <;> simp only [FrontOutcome.ended.injEq, FrontOutcome.passed.injEq,
      reduceCtorEq] at e <;> (try rw [← e]) <;> (try rw [← e.1]) <;>
    first
      | with_reducible exact k.fireWatches h
      | with_reducible exact k.red h
      | with_reducible exact k.red (k.fireWatches h)

theorem startAtLocker {t : Tap} {n : Fin 1024} {l : Locker} {slot : Nat} {b : Band} {d : Direction} {p : Purpose}
    (h : P s) : P (s.startAtLocker t n l slot b d p) := by
  unfold State.startAtLocker; split
  · exact k.wait h
  · exact k.handOver (k.green (k.reserve (by assumption) h))

theorem tapVacant {t : Tap} {n : Fin 1024} {l : Locker} {slot : Nat} {b : Band} (h : P s) :
    P (s.tapVacant t n l slot b) := by
  unfold State.tapVacant
  repeat' split
  all_goals first
    | with_reducible exact k.red h
    | with_reducible exact k.wait h
    | with_reducible exact k.handOver (k.green (k.acquire (k.reserve (by assumption) h)))

theorem tapReserved {t : Tap} {n : Fin 1024} {l : Locker} {slot : Nat} {b : Band} (h : P s) :
    P (s.tapReserved t n l slot b) := by
  unfold State.tapReserved
  repeat' split
  all_goals first | with_reducible exact k.denyHolder h | with_reducible exact k.red h | with_reducible exact k.handOver (k.green (k.modLocker h))

theorem tapLocked {t : Tap} {n : Fin 1024} {l : Locker} {slot : Nat} {b : Band} (h : P s) :
    P (s.tapLocked t n l slot b) := by
  unfold State.tapLocked
  repeat' split
  all_goals first | with_reducible exact k.startAtLocker h | with_reducible exact k.denyHolder h

theorem giveUp {t : Tap} {n : Fin 1024} {slot : Nat} {b : Band} (h : P s) : P (s.giveUp t n slot b) := by
  unfold State.giveUp; split
  · exact k.wait h
  · exact k.green (k.modLocker (k.releaseLocker (k.write (by assumption) h)))

theorem tapReleased {t : Tap} {n : Fin 1024} {l : Locker} {slot : Nat} {b : Band} (h : P s) :
    P (s.tapReleased t n l slot b) := by
  unfold State.tapReleased
  repeat' split
  all_goals first
    | with_reducible exact k.denyHolder h | with_reducible exact k.startAtLocker h | with_reducible exact k.wait h | with_reducible exact k.giveUp h | with_reducible exact k.red h

theorem tapStaffOnly {t : Tap} {n : Fin 1024} {l : Locker} {slot : Nat} {b : Band} {r : RedReason} (h : P s) :
    P (s.tapStaffOnly t n l slot b r) := by
  unfold State.tapStaffOnly; split
  · exact k.startAtLocker h
  · exact k.red h

theorem decideLocker {t : Tap} {n : Fin 1024} {l : Locker} {slot : Nat} {b : Band} (h : P s) :
    P (s.decideLocker t n l slot b) := by
  unfold State.decideLocker
  repeat' split
  all_goals first
    | with_reducible exact k.wait h | with_reducible exact k.tapStaffOnly h | with_reducible exact k.tapVacant h | with_reducible exact k.tapReserved h | with_reducible exact k.tapLocked h
    | with_reducible exact k.tapReleased h

theorem tapLock {t : Tap} (h : P s) : P (s.tapLock t) := by
  unfold State.tapLock
  dsimp only
  repeat' split
  all_goals first
    | with_reducible exact h
    | with_reducible exact (k.front h).1 _ (by assumption)
    | with_reducible exact k.decideLocker ((k.front h).2 _ _ _ (by assumption))

theorem allocate {t : Tap} {z : Fin 16} {n : Fin 1024} {slot : Nat} {b : Band} (h : P s) :
    P (s.allocate t z n slot b) := by
  unfold State.allocate
  dsimp only
  split
  all_goals first
    | with_reducible exact k.grant (k.answerTap (k.rotors (k.acquire (k.modLocker h))))
    | with_reducible exact k.grant (k.answerTap (k.acquire (k.modLocker h)))

theorem decideKiosk {t : Tap} {z : Fin 16} {slot : Nat} {b : Band} (h : P s) : P (s.decideKiosk t z slot b) := by
  unfold State.decideKiosk
  dsimp only
  repeat' split
  all_goals first
    | with_reducible exact k.red h
    | with_reducible exact k.wait h
    | with_reducible exact k.grant (k.answerTap h)
    | with_reducible exact k.allocate (k.writeReserve (by assumption) h)

theorem tapKiosk {t : Tap} {z : Fin 16} (h : P s) : P (s.tapKiosk t z) := by
  unfold State.tapKiosk; split
  · exact (k.front h).1 _ (by assumption)
  · exact k.decideKiosk ((k.front h).2 _ _ _ (by assumption))

theorem lapseReservation {n : Fin 1024} (h : P s) : P (s.lapseReservation n) := by
  unfold State.lapseReservation
  repeat' split
  all_goals first | with_reducible exact h | with_reducible exact k.convert (k.modLocker (k.releaseLocker (k.passTo h)))

theorem callAny {q : Fin 4} (h : P s) : P (s.callAny q) := by
  unfold State.callAny; split
  · exact k.callStep h
  · exact h

theorem joinQueue {t : Tap} {q : Fin 4} {slot : Nat} {b : Band} (h : P s) : P (s.joinQueue t q slot b) :=
  k.callAny (k.answerTap (k.modBand (fun _ => rfl) (k.tickets (k.classQueues h))))

theorem decideQueue {t : Tap} {q : Fin 4} {slot : Nat} {b : Band} (h : P s) : P (s.decideQueue t q slot b) := by
  unfold State.decideQueue
  repeat' split
  all_goals first | with_reducible exact k.answerTap h | with_reducible exact k.red h | with_reducible exact k.joinQueue h

theorem decideOutside {t : Tap} {n : Fin 64} {c : Cabin} {slot : Nat} {b : Band} (h : P s) :
    P (s.decideOutside t n c slot b) := by
  unfold State.decideOutside
  repeat' split
  all_goals first
    | with_reducible exact k.red h | with_reducible exact k.wait h | with_reducible exact k.letIn h | with_reducible exact k.decideQueue h
    | with_reducible exact k.letIn (k.endQueueLink (k.reserve (by assumption) h))

theorem tapOutside {t : Tap} {n : Fin 64} (h : P s) : P (s.tapOutside t n) := by
  unfold State.tapOutside
  repeat' split
  all_goals first
    | with_reducible exact h
    | with_reducible exact (k.front h).1 _ (by assumption)
    | with_reducible exact k.decideOutside ((k.front h).2 _ _ _ (by assumption))

theorem extend {t : Tap} {n : Fin 64} {slot : Nat} (h : P s) : P (s.extend t n slot) :=
  k.green (k.followLamp (k.modCabin h))

theorem decideInside {t : Tap} {n : Fin 64} {c : Cabin} {slot : Nat} {b : Band} (h : P s) :
    P (s.decideInside t n c slot b) := by
  unfold State.decideInside
  repeat' split
  all_goals first | with_reducible exact k.red h | with_reducible exact k.wait h | with_reducible exact k.denyHolder h | with_reducible exact k.extend h

theorem tapInside {t : Tap} {n : Fin 64} (h : P s) : P (s.tapInside t n) := by
  unfold State.tapInside
  repeat' split
  all_goals first
    | with_reducible exact h
    | with_reducible exact (k.front h).1 _ (by assumption)
    | with_reducible exact k.decideInside ((k.front h).2 _ _ _ (by assumption))

theorem expireEntry {n : Fin 64} (h : P s) : P (s.expireEntry n) := by
  unfold State.expireEntry
  dsimp only
  repeat' split
  all_goals first | with_reducible exact h | with_reducible exact k.vacate (k.passTo h) | with_reducible exact k.handReset (k.vacate (k.passTo h))

theorem reachWarning {n : Fin 64} (h : P s) : P (s.reachWarning n) := by
  unfold State.reachWarning
  repeat' split
  all_goals first | with_reducible exact h | with_reducible exact k.followLamp (k.modCabin (k.passTo h))

theorem expireOccupancy {n : Fin 64} (h : P s) : P (s.expireOccupancy n) := by
  unfold State.expireOccupancy
  dsimp only
  repeat' split
  all_goals first | with_reducible exact h | with_reducible exact k.followLamp (k.alert (k.modCabin (k.passTo h)))

theorem expireCall {n : Fin 64} (h : P s) : P (s.expireCall n) := by
  unfold State.expireCall
  repeat' split
  all_goals first | with_reducible exact h | with_reducible exact k.lapseCall (k.passTo h)

theorem letOut {t : Tap} {slot : Nat} (h : P s) : P (s.letOut t slot) := k.remove (k.place (k.answerTap h))

theorem sendToPay {t : Tap} {slot : Nat} {f : TallyFields} (h : P s) : P (s.sendToPay t slot f) :=
  k.answerTap (k.modBand (fun _ => rfl) h)

theorem exitEvacuating {t : Tap} {slot : Nat} {b : Band} (h : P s) : P (s.exitEvacuating t slot b) := by
  unfold State.exitEvacuating; split
  · exact k.letOut (k.write (by assumption) h)
  · exact k.place (k.answerTap h)

theorem exitNormal {t : Tap} {slot : Nat} {b : Band} (h : P s) : P (s.exitNormal t slot b) := by
  unfold State.exitNormal
  dsimp only
  repeat' split
  all_goals first
    | with_reducible exact k.wait h | with_reducible exact k.red h | with_reducible exact k.letOut (k.write (by assumption) h)
    | with_reducible exact k.sendToPay (k.write (by assumption) h)

theorem tapExit {t : Tap} (h : P s) : P (s.tapExit t) := by
  unfold State.tapExit
  repeat' split
  all_goals first
    | with_reducible exact (k.front h).1 _ (by assumption)
    | with_reducible exact k.exitEvacuating ((k.front h).2 _ _ _ (by assumption))
    | with_reducible exact k.exitNormal ((k.front h).2 _ _ _ (by assumption))

/-! ## Spur ports -/

theorem beginPoll {sp : Fin 4} (h : P s) : P (s.beginPoll sp) := by
  unfold State.beginPoll
  dsimp only
  repeat' split
  · exact k.port rfl h
  · exact h
  · rename_i hc _ _ _
    exact k.modHead (fun _ hb => listBounded_afterPoll hb) (k.port (by have e := choose_heads hc; exact e) h)

theorem repeatIdent {sp : Fin 4} {a : Fin 32} (h : P s) : P (s.repeatIdent sp a) := by
  unfold State.repeatIdent
  repeat' split
  all_goals first | with_reducible exact h | with_reducible exact k.place h

theorem conclude {sp : Fin 4} (h : P s) : P (s.conclude sp) := by
  unfold State.conclude
  dsimp only
  split
  · exact h
  · exact k.beginPoll (k.repeatIdent (k.port rfl h))

theorem unseeDoors {sp : Fin 4} {a : Fin 32} {e : Enrolment} (h : P s) : P (s.unseeDoors sp a e) := by
  unfold State.unseeDoors
  split
  all_goals first | with_reducible exact h | with_reducible exact k.modCabin h | with_reducible exact keptFoldl (fun _ _ h => k.modLocker h) _ h

theorem miss {sp : Fin 4} {a : Fin 32} (h : P s) : P (s.miss sp a) := by
  unfold State.miss
  repeat' split
  all_goals first
    | with_reducible exact h
    | with_reducible exact k.modHead (fun _ hb => hb) h
    | with_reducible exact k.unseeDoors (k.alert (k.modHead (fun _ hb => hb) h))

theorem missExchange {sp : Fin 4} (h : P s) : P (s.missExchange sp) := by
  unfold State.missExchange
  repeat' split
  all_goals first | with_reducible exact h | with_reducible exact k.conclude h | with_reducible exact k.conclude (k.miss h)

theorem pollSent {sp : Fin 4} (h : P s) : P (s.pollSent sp) := by
  unfold State.pollSent
  dsimp only
  repeat' split
  all_goals first | with_reducible exact h | with_reducible exact k.port rfl h

theorem expireReply {sp : Fin 4} (h : P s) : P (s.expireReply sp) := by
  unfold State.expireReply; split
  · exact h
  · exact k.missExchange (k.passTo h)

theorem holdItems {sp : Fin 4} {l : List ReplyItem} (h : P s) : P (s.holdItems sp l) := by
  unfold State.holdItems
  dsimp only
  repeat' split
  all_goals first | with_reducible exact h | with_reducible exact k.port rfl h | with_reducible exact k.conclude (k.port rfl h)

theorem takeReply {sp : Fin 4} {e : Exchange} {m : Bool} {l : List ReplyItem} (h : P s) : P (s.takeReply sp e m l) := by
  unfold State.takeReply
  repeat' split
  all_goals first
    | with_reducible exact k.conclude h
    | with_reducible exact k.holdItems (k.modHead (fun _ hb => listBounded_goodReply hb) h)

theorem judgeReply {sp : Fin 4} {l : List RxByte} (h : P s) : P (s.judgeReply sp l) := by
  unfold State.judgeReply
  repeat' split
  all_goals first | with_reducible exact h | with_reducible exact k.takeReply h | with_reducible exact k.missExchange h

theorem popItem {sp : Fin 4} (h : P s) : P (s.popItem sp) := by
  unfold State.popItem; split
  · exact h
  · exact k.holdItems h

theorem takeItem {sp : Fin 4} {a : Fin 32} {it : ReplyItem} {f : State → State} (hf : ∀ s, P s → P (f s)) (h : P s) :
    P (s.takeItem sp a it f) := by
  unfold State.takeItem
  repeat' split
  all_goals first | with_reducible exact k.popItem h | with_reducible exact k.popItem (hf _ h) | with_reducible exact hf _ h

theorem resolve {n : Fin 1024} {l : Locker} {b : Bolt} (h : P s) : P (s.resolve n l b) := by
  unfold State.resolve; split
  · exact k.enterInspect h
  · exact k.alert (k.modLocker h)
  · exact k.modLocker h

theorem resolvedOpen {n : Fin 1024} {d : Door} (h : P s) : P (s.resolvedOpen n d) := by
  unfold State.resolvedOpen; split
  · exact k.forcedDoor h
  · exact k.forcedDoor h
  · exact h

theorem lockerStatus {n : Fin 1024} {d : Door × Bolt} (h : P s) : P (s.lockerStatus n d) := by
  unfold State.lockerStatus
  dsimp only
  repeat' split
  all_goals first
    | with_reducible exact h
    | with_reducible exact k.resolvedOpen (k.resolve (k.modLocker (k.lockerDoor h)))
    | with_reducible exact k.modLocker (k.lockerDoor h)

theorem actOnWait {n : Fin 64} {b : Bolt} (h : P s) : P (s.actOnWait n b) := by
  unfold State.actOnWait
  dsimp only
  repeat' split
  all_goals first
    | with_reducible exact h | with_reducible exact k.putCabin h | with_reducible exact k.evacuateIdle (k.putCabin h) | with_reducible exact k.freeUp (k.putCabin h)
    | with_reducible exact k.handReset (k.putCabin h)

theorem cabinStatus {n : Fin 64} {d : Door × Bolt} (h : P s) : P (s.cabinStatus n d) :=
  k.actOnWait (k.placeLamp (k.cabinDoor h))

theorem takeStatus {sp : Fin 4} {a : Fin 32} {e : Enrolment} {l : List (Door × Bolt)} (h : P s) :
    P (s.takeStatus sp a e l) := by
  unfold State.takeStatus
  split
  · refine keptFoldl (fun s i h => ?_) _ h
    split
    · exact k.lockerStatus h
    · exact h
  · split
    · exact k.cabinStatus h
    · exact h
  · exact h
  · exact h

theorem matchStatus {sp : Fin 4} {a : Fin 32} {ty : HeadType} {l : List (Door × Bolt)} (h : P s) :
    P (s.matchStatus sp a ty l) := by
  unfold State.matchStatus
  repeat' split
  all_goals first
    | with_reducible exact h
    | with_reducible exact k.takeStatus (k.modHead (fun _ hb => hb) h)
    | with_reducible exact k.alert (k.modHead (fun _ hb => hb) h)

/-! ## The transmitter -/

theorem beginSegment {r : Reply} {n : Nat} (h : P s) : P (s.beginSegment r n) := by
  unfold State.beginSegment; split
  · exact k.transmit h
  · exact k.transmit h

theorem beginRecord {r : Record} (h : P s) : P (s.beginRecord r) := k.transmit h

theorem freeTransmitter (h : P s) : P s.freeTransmitter := k.transmit h

theorem arbitrate (h : P s) : P s.arbitrate := by
  unfold State.arbitrate
  repeat' split
  all_goals first | with_reducible exact h | with_reducible exact k.beginSegment h | with_reducible exact k.beginRecord h

theorem segmentSent (h : P s) : P s.segmentSent := by
  unfold State.segmentSent
  repeat' split
  all_goals first | with_reducible exact h | with_reducible exact k.beginSegment h

end KeptCore

namespace KeptOwner

variable {P : State → Prop} (k : KeptOwner P) {s t : State} {d : ReplyData}
include k

/-! ## The owners of the trunk commands -/

theorem bandIssue {x : Serial} {c : Byte} {g m : Option (BitVec 16)} (e : s.bandIssue x c g m = .accepted t d) (h : P s) :
    P t := by
  unfold State.bandIssue at e
  dsimp only at e
  repeat' split at e
  all_goals simp only [Verdict.accepted.injEq, reduceCtorEq] at e
  rw [← e.1]
  exact k.issue (by simp_all) (by simp_all [State.issuedBand]) (by assumption) (by omega) h

theorem bandCredit {x : Serial} {m : BitVec 16} (e : s.bandCredit x m = .accepted t d) (h : P s) : P t := by
  unfold State.bandCredit at e
  repeat' split at e
  all_goals simp only [Verdict.accepted.injEq, reduceCtorEq] at e
  rw [← e.1]
  exact k.modBand (fun _ => rfl) h

theorem bandBar {x : Serial} {on : Bool} (e : s.bandBar x on = .accepted t d) (h : P s) : P t := by
  unfold State.bandBar State.barOn State.barOff at e
  repeat' split at e
  all_goals simp only [Verdict.accepted.injEq, reduceCtorEq] at e
  all_goals rw [← e.1]
  · exact h
  · exact k.bar h
  · exact k.modBand (fun b => by unfold Band.unbarred; split <;> rfl) h

theorem bandVoid {x : Serial} (e : s.bandVoid x = .accepted t d) (h : P s) : P t := by
  unfold State.bandVoid at e
  repeat' split at e
  all_goals simp only [Verdict.accepted.injEq, reduceCtorEq] at e
  rw [← e.1]
  exact k.remove h

theorem bandReplace {x y : Serial} (e : s.bandReplace x y = .accepted t d) (h : P s) : P t := by
  unfold State.bandReplace at e
  repeat' split at e
  all_goals simp only [Verdict.accepted.injEq, reduceCtorEq] at e
  rw [← e.1]
  exact k.rename (by assumption) (by simp_all) (by simp_all) h

theorem lockerSet {f l : BitVec 16} {a z : Byte} (e : s.lockerSet f l a z = .accepted t d) (h : P s) : P t := by
  have ask : ∀ (l : List (Fin 1024)) {s : State}, P s → P (l.foldl State.askStatus s) :=
    fun l _ h => keptFoldl (fun _ _ h => k.place h) l h
  have set : ∀ (g : Locker → Locker) (l : List (Fin 1024)) {s : State}, P s →
      P (l.foldl (fun s n => s.modLocker n g) s) := fun _ l _ h => keptFoldl (fun _ _ h => k.modLocker h) l h
  unfold State.lockerSet State.serviceOut State.serviceIn State.recheck State.moveZone at e
  dsimp only at e
  repeat' split at e
  all_goals simp only [Verdict.accepted.injEq, reduceCtorEq] at e
  all_goals rw [← e.1]
  · exact set _ _ h
  · exact ask _ (set _ _ h)
  · exact ask _ (set _ _ h)
  · exact set _ _ h

theorem cabinSet {n a c : Byte} (e : s.cabinSet n a c = .accepted t d) (h : P s) : P t := by
  unfold State.cabinSet State.cabinClose State.cabinReopen State.cabinReclass State.cabinReply at e
  repeat' split at e
  all_goals simp only [Verdict.accepted.injEq, reduceCtorEq] at e
  all_goals rw [← e.1]
  all_goals first
    | with_reducible exact k.putCabin h
    | with_reducible exact k.place (k.putCabin h)
    | with_reducible exact k.callStep (k.putCabin h)

theorem wakeSpur {sp : Fin 4} (h : P s) : P (s.wakeSpur sp) := by
  unfold State.wakeSpur; split
  · exact k.beginPoll h
  · exact h

theorem createDoors {sp : Fin 4} {a : Fin 32} {e : Enrolment} (h : P s) : P (s.createDoors sp a e) := by
  unfold State.createDoors; split
  · refine keptFoldl (fun s i h => ?_) _ h
    split
    · exact k.putLocker h
    · exact h
  · exact k.putCabin h
  · exact h
  · exact h

theorem enrolNew {sp : Fin 4} {a : Fin 32} {e : Enrolment} (h : P s) : P (s.makeHead sp a e) :=
  k.createDoors (k.place (k.makeHead h))

theorem removeHead {sp : Fin 4} {a : Fin 32} {e : Enrolment} (h : P s) : P (s.removeHead sp a e) := by
  have h1 : P ((s.dropHead sp a).markRemoved sp a) := by
    unfold State.markRemoved
    dsimp only
    repeat' split
    all_goals first | with_reducible exact k.dropHead h | with_reducible exact k.port rfl (k.dropHead h)
  unfold State.removeHead State.deleteDoors
  split
  · exact keptFoldl (fun _ _ h => k.dropLocker h) _ h1
  · exact k.dropCabin h1
  · exact h1
  · exact h1

theorem headEnrol {p a ty q : Byte} (e : s.headEnrol p a ty q = .accepted t d) (h : P s) : P t := by
  unfold State.headEnrol State.enrolAt at e
  repeat' split at e
  all_goals simp only [Verdict.accepted.injEq, reduceCtorEq] at e
  all_goals rw [← e.1]
  all_goals first
    | with_reducible exact k.wakeSpur (k.enrolNew h)
    | with_reducible exact k.wakeSpur (k.place (k.modHead (fun _ hb => hb) h))
    | with_reducible exact k.wakeSpur (k.enrolNew (k.removeHead h))

theorem headRemove {p a : Byte} (e : s.headRemove p a = .accepted t d) (h : P s) : P t := by
  unfold State.headRemove at e
  repeat' split at e
  all_goals simp only [Verdict.accepted.injEq, reduceCtorEq] at e
  rw [← e.1]
  exact k.removeHead h

theorem pollPlan {p r : Byte} {l : List Byte} (e : s.pollPlan p r l = .accepted t d) (h : P s) : P t := by
  unfold State.pollPlan at e
  repeat' split at e
  all_goals simp only [Verdict.accepted.injEq, reduceCtorEq] at e
  rw [← e.1]
  exact k.port rfl h

theorem abandonAt {n : Fin 1024} (h : P s) : P (s.abandonAt n) := by
  unfold State.abandonAt; split
  · exact k.abandonLocker h
  · exact h

theorem abandonCabin {n : Fin 64} (h : P s) : P (s.abandonCabin n) := by
  unfold State.abandonCabin
  dsimp only
  repeat' split
  all_goals first
    | with_reducible exact h
    | with_reducible exact k.putCabin h
    | with_reducible exact k.modCabin (k.putCabin h)
    | with_reducible exact k.modCabin (k.clearCabinLink (k.convert (k.putCabin h)))

theorem restartSpur {sp : Fin 4} (h : P s) : P (s.restartSpur sp) :=
  k.beginPoll (k.restartPort (keptFoldl (fun _ _ h => k.abandonCabin h) _ (keptFoldl (fun _ _ h => k.abandonAt h) _ h)))

theorem evacuateCabin {n : Fin 64} (h : P s) : P (s.evacuateCabin n) := by
  unfold State.evacuateCabin
  dsimp only
  repeat' split
  all_goals first
    | with_reducible exact h
    | with_reducible exact k.followLamp (k.handOver (k.dropAction (k.modCabin h)))
    | with_reducible exact k.followLamp (k.handOver (k.dropAction (k.modCabin (k.clearCabinLink (k.convert h)))))

theorem emptyQueue {q : Fin 4} (h : P s) : P (s.emptyQueue q) :=
  k.putClassQueue (keptFoldl (f := fun s (e : QueueEntry) => s.modSerial (some e.serial) (fun b => { b with queueLink := none }))
    (fun _ _ h => k.modSerial (fun _ => rfl) h) _ h)

theorem assertEvacuation (h : P s) : P s.assertEvacuation :=
  keptFoldl (fun _ _ h => k.emptyQueue h) _ (keptFoldl (fun _ _ h => k.evacuateCabin h) _ (k.evacuation h))

theorem releaseCabin {n : Fin 64} (h : P s) : P (s.releaseCabin n) := by
  unfold State.releaseCabin
  repeat' split
  all_goals first
    | with_reducible exact h
    | with_reducible exact k.handReset (k.modCabin (k.dropAction h))

theorem releaseEvacuation (h : P s) : P s.releaseEvacuation :=
  keptFoldl (fun _ _ h => k.releaseCabin h) _ (k.evacuation h)

theorem evacuationLet (h : P s) : P s.evacuationLet := by
  unfold State.evacuationLet; split
  · exact k.releaseEvacuation h
  · exact h

theorem evacuationTaken {i : Fin 6} (h : P s) : P (s.evacuationTaken i) := by
  unfold State.evacuationTaken
  dsimp only
  split
  · exact k.alert h
  · exact k.assertEvacuation (k.alert h)

theorem actOnLine {i : Fin 6} {f : LineFunction} {b : Bool} (h : P s) : P (s.actOnLine i f b) := by
  unfold State.actOnLine
  repeat' split
  all_goals first
    | with_reducible exact h
    | with_reducible exact k.evacuationTaken h
    | with_reducible exact k.evacuationLet h
    | with_reducible exact k.beginClosing (by assumption) h

theorem drivePin {i : Fin 6} {b : Bool} (h : P s) : P (s.drivePin i b) := k.lines h

theorem settleLine {i : Fin 6} (h : P s) : P (s.settleLine i) := by
  unfold State.settleLine
  dsimp only
  split
  · exact h
  · exact k.actOnLine (k.lines (k.passTo h))

theorem loadLines {v : Vector (LineFunction × Bool) 6} (h : P s) : P (s.loadLines v) := k.evacuationLet (k.lines h)

/-- The owner of a command leaves the property where it accepts. -/
theorem owner {c : Command} (e : Machine.owner c s = .accepted t d) (h : P s) : P t := by
  cases c with
  | bandIssue => exact k.bandIssue e h
  | bandCredit => exact k.bandCredit e h
  | bandBar => exact k.bandBar e h
  | bandVoid => exact k.bandVoid e h
  | bandReplace => exact k.bandReplace e h
  | lockerSet => exact k.lockerSet e h
  | cabinSet => exact k.cabinSet e h
  | headEnrol => exact k.headEnrol e h
  | headRemove => exact k.headRemove e h
  | pollPlan => exact k.pollPlan e h
  | restart =>
    simp only [Machine.owner, State.restart, Verdict.accepted.injEq] at e
    rw [← e.1]
    exact keptFoldl (fun _ _ h => k.restartSpur h) _ h
  | linesLoad =>
    simp only [Machine.owner, State.linesLoad, Verdict.accepted.injEq] at e
    rw [← e.1]
    exact k.loadLines h
  | _ =>
    simp only [Machine.owner, State.bandQuery, State.classLoad, State.tariffLoad, State.scheduleLoad,
      State.controlLoad, State.zoneLoad, State.lockerQuery, State.lockerQueryZone, State.cabinClassLoad,
      State.cabinQuery, State.queueQuery, State.watchSet, State.watchClear, State.alertFetch, State.alertPeek,
      State.alertClear, State.setPaused, State.timeSet, State.openDay, State.dayClose] at e
    repeat' split at e
    all_goals simp only [Verdict.accepted.injEq, reduceCtorEq] at e
    all_goals rw [← e.1]
    all_goals first
      | with_reducible exact h
      | with_reducible exact k.classes h
      | with_reducible exact k.tariffs h
      | with_reducible exact k.schedule h
      | with_reducible exact k.control h
      | with_reducible exact k.zones h
      | with_reducible exact k.cabinClasses h
      | with_reducible exact k.watches h
      | with_reducible exact k.paused h
      | with_reducible exact k.timeSet h
      | with_reducible exact k.alerts h
      | exact k.alerts h
      | exact k.openDay (by simp_all) (by assumption) h
      | exact k.beginClosing (by simp_all) h

end KeptOwner

/-- The modHead operation keeps the trunk. -/
theorem modHead_trunk (s : State) (sp : Fin 4) (a : Fin 32) (f : Head → Head) :
    (s.modHead sp a f).trunk = s.trunk := by
  unfold State.modHead; split
  · rfl
  · rfl

/-- The owner of a command leaves the reply list, the receive assembly and the station as they were. -/
theorem owner_trunk {c : Command} {s t : State} {d : ReplyData} (e : owner c s = .accepted t d) :
    t.trunk.replies = s.trunk.replies ∧ t.trunk.assembly = s.trunk.assembly ∧ t.trunk.station = s.trunk.station := by
  refine KeptOwner.owner (P := fun t => t.trunk.replies = s.trunk.replies ∧ t.trunk.assembly = s.trunk.assembly
    ∧ t.trunk.station = s.trunk.station) ?_ e ⟨rfl, rfl, rfl⟩
  constructor
  constructor
  all_goals intros
  all_goals first
    | with_reducible assumption
    | (rename_i h1 h2; unfold State.write? at h1; split at h1 <;> simp at h1; rw [← h1]; exact h2)
    | (rename_i h1 h2; unfold State.reserve? at h1; split at h1 <;> simp at h1; rw [← h1]; exact h2)
    | (rename_i h1 h2; unfold State.writeReserve? at h1; split at h1 <;> simp at h1; rw [← h1]; exact h2)
    | (unfold State.convert; split <;> assumption)
    | (unfold State.modBand; split <;> assumption)
    | (rw [modHead_trunk]; assumption)
    | assumption
    | (unfold State.rename State.modBand; split <;> assumption)

namespace KeptEvent

variable {P : State → Prop} (k : KeptEvent P) {s t : State}
include k

/-! ## Frames -/

theorem answerFrame {kind : Byte} {f : Frame} {v : Verdict}
    (hr : ∀ t d, v = .accepted t d → t.trunk.replies = s.trunk.replies ∧ P t) (ht : s.takes f = true) (h : P s) :
    P (s.answerFrame kind f v) := by
  have hl : (f.station == Config.broadcast) = false → s.trunk.replies.length < Config.replyPlaces := by
    intro hb; simp_all [State.takes]
  unfold State.answerFrame
  split
  · rename_i hb
    exact k.joinReply (by rw [(hr _ _ rfl).1]; exact hl hb) (hr _ _ rfl).2
  · exact (hr _ _ rfl).2
  · exact k.joinReply (hl (by assumption)) h
  · exact h

theorem takeFrame {kind : Byte} {f : Frame} (h : P s) : P (State.takeFrame owner kind f s) := by
  unfold State.takeFrame
  dsimp only
  have h1 : P (s.putAssembly .hunting) := k.assembly h
  split
  · split
    · exact k.answerFrame (by simp) (by assumption) h1
    · split
      · exact h1
      · exact k.answerFrame (fun t d e => ⟨(owner_trunk e).1, k.owner e h1⟩) (by assumption) h1
  · exact h1

theorem judgeFrame {c : CompleteFrame} (h : P s) : P (State.judgeFrame owner c s) := by
  unfold State.judgeFrame; split
  · exact k.takeFrame h
  · exact k.assembly h

theorem takeBytes {l : List TrunkByte} (h : P s) : P (s.takeBytes l) := by
  refine keptFoldl (fun s b h => ?_) _ h
  unfold State.takeByte
  dsimp only
  split
  · exact k.arbitrate (k.judgeFrame (k.assembly h))
  · exact k.assembly h

/-! ## The clock, the walk, and what has been sent -/

theorem minuteEvent (h : P s) : P s.minute := k.minute (k.passTo h)

theorem finishWalk (hd : s.clock.walk = .due) (hn : Table.firstFrom s.clock.cursor s.visit = none) (h : P s) :
    P s.finishWalk := by
  unfold State.finishWalk
  split
  · rename_i s1 hw
    have h1 : s1.clock = s.clock ∧ s1.visit = s.visit := by
      unfold State.write? at hw; split at hw <;> simp at hw; rw [← hw]; exact ⟨rfl, rfl⟩
    exact k.closeDay (by rw [h1.1]; exact hd) (by rw [h1.1, h1.2]; exact hn) (k.write hw h)
  · exact k.walkWaits hd h

theorem closeBand {slot : Nat} {b : Band} (hd : s.clock.walk = .due)
    (hn : Table.firstFrom s.clock.cursor s.visit = some (slot, b)) (h : P s) : P (s.closeBand slot b) := by
  unfold State.closeBand
  split
  · rename_i s1 hw
    exact k.walkPast hd hn hw h (k.remove (k.write hw h))
  · exact k.walkWaits hd h

theorem walkStep (h : P s) : P s.walkStep := by
  unfold State.walkStep State.walkDue
  split
  · rename_i hd
    have hd : s.clock.walk = .due := by simpa using hd
    split
    · exact k.closeBand hd (by assumption) h
    · exact k.finishWalk hd (by assumption) h
  · exact h

theorem finalStep (h : P s) : P s.finalStep := by
  unfold State.finalStep State.walkDue
  split
  · rename_i hd
    exact k.finishWalk (by simpa using hd.1) hd.2 h
  · exact h

theorem recordLeft (h : P s) : P s.recordLeft := by
  have h1 : P (s.deferredCabins.foldl State.callStep s) := keptFoldl (fun _ _ h => k.callStep h) _ h
  unfold State.recordLeft State.wakeWalk
  split
  · exact k.walkWakes (by assumption) h1
  · exact h1

theorem recordSent (h : P s) : P s.recordSent := by
  unfold State.recordSent; split
  · exact k.recordLeft (k.dropRecord (k.freeTransmitter h))
  · exact h

theorem replySent (h : P s) : P s.replySent := by
  unfold State.replySent
  repeat' split
  all_goals first | with_reducible exact h | with_reducible exact k.dropReply (k.freeTransmitter h)

/-! ## Every command -/

theorem event {f : State → State} (hf : ∀ {s}, P s → P (f s)) (h : P { s with eventNo := s.eventNo + 1 })
    (e : Machine.event f s = .next t) : P t := by
  cases e
  exact k.arbitrate (hf h)

/-- A tap's effect on the enrolment of its head, taken as an item. -/
theorem takeTap {x : Tap} {f : Enrolment → State → State} (hf : ∀ e s, P s → P (f e s)) (h : P s) :
    P (s.takeTap x f) := by
  refine k.takeItem (fun s h => ?_) h
  repeat' split
  all_goals first | with_reducible exact h | with_reducible exact hf _ _ h

/-- A report's effect on the enrolment of its head, taken as an item. -/
theorem takeReport {sp : Fin 4} {a : Fin 32} {it : ReplyItem} {f : Enrolment → State → State}
    (hf : ∀ e s, P s → P (f e s)) (h : P s) : P (s.takeReport sp a it f) := by
  refine k.takeItem (fun s h => ?_) h
  repeat' split
  all_goals first | with_reducible exact h | with_reducible exact hf _ _ h

/-- A property each primitive change keeps, true of the state once the event is counted, holds after every command. -/
theorem exec {c : Instr} (h : P { s with eventNo := s.eventNo + 1 }) (e : Machine.exec c s = .next t) : P t := by
  cases c with
  | coldReset => exact k.event k.reset h e
  | minuteEvent => exact k.event k.minuteEvent h e
  | droppedFrame => exact k.event k.judgeFrame h e
  | trunkInterByteGap => exact k.event (fun h => k.assembly (k.takeBytes h)) h e
  | trunkFrameAbandoned => exact k.event k.takeBytes h e
  | replySent => exact k.event k.replySent h e
  | replySegmentSent => exact k.event k.segmentSent h e
  | recordSent => exact k.event k.recordSent h e
  | closeWalkStep => exact k.event k.walkStep h e
  | closeWalkFinalStep => exact k.event k.finalStep h e
  | pollFrameSent => exact k.event k.pollSent h e
  | replyTimeout => exact k.event k.expireReply h e
  | replyCharacterGap => exact k.event k.missExchange h e
  | replyAborted => exact k.event k.missExchange h e
  | spurReply => exact k.event k.judgeReply h e
  | lockerTap =>
    refine k.event (fun h => k.takeTap (fun e s h => ?_) h) h e
    cases e with
    | lock => exact k.tapLock h
    | _ => exact h
  | kioskTap =>
    refine k.event (fun h => k.takeTap (fun e s h => ?_) h) h e
    cases e with
    | kiosk => exact k.tapKiosk h
    | _ => exact h
  | outsideReaderTap =>
    refine k.event (fun h => k.takeTap (fun e s h => ?_) h) h e
    cases e with
    | cabin => exact k.tapOutside h
    | _ => exact h
  | insideReaderTap =>
    refine k.event (fun h => k.takeTap (fun e s h => ?_) h) h e
    cases e with
    | cabin => exact k.tapInside h
    | _ => exact h
  | exitTap =>
    refine k.event (fun h => k.takeTap (fun e s h => ?_) h) h e
    cases e with
    | exit => exact k.tapExit h
    | _ => exact h
  | lockerDoorReport =>
    refine k.event (fun h => k.takeReport (fun e s h => ?_) h) h e
    cases e with
    | lock => exact k.lockerDoor h
    | _ => exact h
  | cabinDoorReport =>
    refine k.event (fun h => k.takeReport (fun e s h => ?_) h) h e
    cases e with
    | cabin => exact k.cabinDoor h
    | _ => exact h
  | boltResult =>
    refine k.event (fun h => k.takeReport (fun e s h => ?_) h) h e
    cases e with
    | lock => exact k.takeResult h
    | cabin =>
      dsimp only
      split
      · exact k.takeResult h
      · exact h
    | _ => exact h
  | attemptDeadline => exact k.event k.expireAttempt h e
  | status => exact k.event (fun h => k.takeItem (fun _ h => k.matchStatus h) h) h e
  | reserveDeadline => exact k.event k.lapseReservation h e
  | entryDeadline => exact k.event k.expireEntry h e
  | warningPoint => exact k.event k.reachWarning h e
  | occupancyExpiry => exact k.event k.expireOccupancy h e
  | callDeadline => exact k.event k.expireCall h e
  | lineChange => exact k.event k.drivePin h e
  | settleTimer => exact k.event k.settleLine h e
  | _ => exact k.event k.takeFrame h e

end KeptEvent

/-- A property each primitive change keeps is kept by every command. -/
theorem Kept.exec {P : State → Prop} (k : Kept P) {s t : State} {c : Instr} (h : P s) (e : Machine.exec c s = .next t) :
    P t :=
  k.toKeptEvent.exec (k.count h) e

/-- A property each primitive change keeps is kept by every step. -/
theorem Kept.step {P : State → Prop} (k : Kept P) {s t : State} (h : P s) (e : Machine.step s = .next t) : P t := by
  unfold Machine.step at e
  split at e
  · cases e; exact k.time h
  · exact k.exec (k.pop h) e

end Sys2Proof.Machine
end

