-- ==== Sys2Proof/Laws/Ops.lean ====
section
/-! SUPPORT. What the shared operations can do: the grants of the Record Queue, the arbiter, the taking of a frame, the
change of an entry, the watches. -/
namespace Sys2Proof.Machine

set_option Elab.async false

/-! ## The Record Queue (R142) -/

/-- A write is granted exactly while the sum is below 128, and appends the stamped record. -/
theorem State.write?_eq_some {s t : State} {b : RecordBody} : s.write? b = some t ↔
    s.queue.sum < 128 ∧ t = { s with queue := { s.queue with records := s.queue.records ++ [s.stamp b] } } := by
  unfold State.write? Config.recordPlaces
  split
  · rename_i h; simp [h, eq_comm]
  · rename_i h; simp [h]

/-- A reservation is granted exactly while the sum is below 128, and takes one place. -/
theorem State.reserve?_eq_some {s t : State} : s.reserve? = some t ↔
    s.queue.sum < 128 ∧ t = { s with queue := { s.queue with reserved := s.queue.reserved + 1 } } := by
  unfold State.reserve? Config.recordPlaces
  split
  · rename_i h; simp [h, eq_comm]
  · rename_i h; simp [h]

/-- A write and a reservation are granted together exactly while the sum is at most 126. -/
theorem State.writeReserve?_eq_some {s t : State} {b : RecordBody} : s.writeReserve? b = some t ↔
    s.queue.sum ≤ 126 ∧ t = { s with queue := { s.queue with records := s.queue.records ++ [s.stamp b],
                                                              reserved := s.queue.reserved + 1 } } := by
  unfold State.writeReserve? Config.recordPlaces
  split
  · rename_i h; simp [show s.queue.sum ≤ 126 by omega, eq_comm]
  · rename_i h; simp [show ¬ s.queue.sum ≤ 126 by omega]

/-- A conversion with a reservation held appends the stamped record and gives the place up. -/
theorem State.convert_of_pos {s : State} {b : RecordBody} (h : 0 < s.queue.reserved) : s.convert b =
    { s with queue := { s.queue with records := s.queue.records ++ [s.stamp b], reserved := s.queue.reserved - 1 } } := by
  unfold State.convert; rw [if_pos h]

/-- A conversion leaves the sum. -/
theorem State.convert_sum (s : State) (b : RecordBody) : (s.convert b).queue.sum = s.queue.sum := by
  unfold State.convert RecordQueue.sum
  split
  · simp; omega
  · rfl

/-! ## The arbiter (R180, R181) -/

/-- Every reply has a first frame. -/
theorem Reply.bodies_ne_nil (r : Reply) : r.bodies ≠ [] := by
  obtain ⟨k, x⟩ := r
  cases x with
  | refused c => simp [Reply.bodies]
  | accepted d => cases d <;> simp [Reply.bodies, ReplyData.segments]

/-- The first frame of a reply, as the arbiter begins it. -/
theorem State.beginSegment_zero (s : State) (r : Reply) : ∃ kind body, r.bodies[0]? = some (kind, body) ∧
    s.beginSegment r 0 = { s with trunk := { s.trunk with arbiter := .sendingReply 0,
                                                          txFrame := upstreamFrame s.trunk.station kind s.attention body } } := by
  have h := Reply.bodies_ne_nil r
  cases hb : r.bodies with
  | nil => exact absurd hb h
  | cons x l => exact ⟨x.1, x.2, by simp, by simp [State.beginSegment, hb]⟩

/-- The arbiter changes nothing but its own state, the frame in the transmitter and the frame number. -/
theorem State.arbitrate_only (s : State) : ∃ a tx n,
    s.arbitrate = { s with trunk := { s.trunk with arbiter := a, txFrame := tx, frameNumber := n } } := by
  unfold State.arbitrate
  repeat' split
  · unfold State.beginSegment; split
    · exact ⟨_, _, _, rfl⟩
    · exact ⟨_, _, s.trunk.frameNumber, rfl⟩
  · exact ⟨_, _, _, rfl⟩
  · exact ⟨s.trunk.arbiter, s.trunk.txFrame, s.trunk.frameNumber, rfl⟩
  · exact ⟨s.trunk.arbiter, s.trunk.txFrame, s.trunk.frameNumber, rfl⟩

/-- The arbiter that has chosen has nothing further to choose. -/
theorem State.arbitrate_idem (s : State) : s.arbitrate.arbitrate = s.arbitrate := by
  by_cases ha : s.trunk.arbiter = .idle
  · cases hr : s.trunk.replies with
    | cons r rs =>
      obtain ⟨k, b, -, h⟩ := s.beginSegment_zero r
      have : s.arbitrate = s.beginSegment r 0 := by simp [State.arbitrate, ha, hr]
      rw [this, h]; simp [State.arbitrate]
    | nil =>
      cases hp : s.queue.paused with
      | true => have : s.arbitrate = s := by simp [State.arbitrate, ha, hr, hp]
                rw [this, this]
      | false =>
        cases hq : s.queue.records with
        | nil => have : s.arbitrate = s := by simp [State.arbitrate, ha, hr, hp, hq]
                 rw [this, this]
        | cons r rs =>
          have : s.arbitrate = s.beginRecord r := by simp [State.arbitrate, ha, hr, hp, hq]
          rw [this]; simp [State.arbitrate, State.beginRecord]
  · have : s.arbitrate = s := by unfold State.arbitrate; split <;> simp_all
    rw [this, this]

/-- The arbiter's choice does not touch the receive assembly. -/
theorem State.arbitrate_putAssembly (s : State) (a : Assembly) : (s.putAssembly a).arbitrate = s.arbitrate.putAssembly a := by
  unfold State.arbitrate State.putAssembly
  simp only
  repeat' split
  all_goals first | rfl | (unfold State.beginSegment; split <;> rfl)

/-! ## Frames (R174 to R178) -/

/-- The state in which the owner of a taken frame's command acts: the assembly hunts anew. -/
theorem State.takeFrame_owned {s : State} {own : Command → State → Verdict} {k : FrameKind} {f : Frame} {c : Command}
    (ht : (s.putAssembly .hunting).takes f = true) (hr : readBody k f.body = some c) :
    State.takeFrame own k.code f s =
      if queryOnly c.kind && f.station == Config.broadcast then s.putAssembly .hunting
      else (s.putAssembly .hunting).answerFrame k.code f (own c (s.putAssembly .hunting)) := by
  have hk : FrameKind.ofCode k.code = some k := by cases k <;> decide
  simp [State.takeFrame, ht, hk, hr]

/-- A frame whose body is wrong in form, or of no known kind, is refused FORMAT. -/
theorem State.takeFrame_format {s : State} {own : Command → State → Verdict} {kind : Byte} {f : Frame}
    (ht : (s.putAssembly .hunting).takes f = true)
    (hr : (FrameKind.ofCode kind).bind (fun k => readBody k f.body) = none) :
    State.takeFrame own kind f s = (s.putAssembly .hunting).answerFrame kind f (.refused .format) := by
  simp [State.takeFrame, ht, hr]

/-- A frame that is not taken leaves everything but the assembly. -/
theorem State.takeFrame_dropped {s : State} {own : Command → State → Verdict} {kind : Byte} {f : Frame}
    (ht : (s.putAssembly .hunting).takes f = false) : State.takeFrame own kind f s = s.putAssembly .hunting := by
  simp [State.takeFrame, ht]

/-- A frame to this station with a place in the reply list is taken. -/
theorem State.takes_own {s : State} {f : Frame} (hs : s.trunk.station.val ≤ 14) (hr : s.trunk.replies.length < 4)
    (hf : f.station = BitVec.ofNat 8 s.trunk.station.val) (hb : f.body.length ≤ 60) :
    s.takes f = true ∧ (f.station == Config.broadcast) = false := by
  have h1 : f.station.toNat = s.trunk.station.val := by rw [hf]; simp; omega
  refine ⟨by simp [State.takes, h1, hr, hb, Config.replyPlaces], ?_⟩
  simp only [beq_eq_false_iff_ne, ne_eq]
  intro h
  have h2 : f.station.toNat = 15 := by rw [h]; rfl
  omega

/-! ## Entries changed -/

/-- A record that stands is changed in its place. -/
theorem State.modBand_of_some {s : State} {slot : Nat} {b : Band} (h : s.band? slot = some b) (f : Band → Band) :
    s.modBand slot f = s.putBand slot (f b) := by
  unfold State.modBand; rw [h]

/-- A locker that exists is changed in its place. -/
theorem State.modLocker_of_some {s : State} {n : Fin 1024} {l : Locker} (h : s.locker? n = some l) (f : Locker → Locker) :
    s.modLocker n f = s.putLocker n (f l) := by
  unfold State.modLocker; rw [h]

/-- A cabin with an entry is changed in its place. -/
theorem State.modCabin_of_some {s : State} {n : Fin 64} {c : Cabin} (h : s.cabin? n = some c) (f : Cabin → Cabin) :
    s.modCabin n f = s.putCabin n (f c) := by
  unfold State.modCabin; rw [h]

/-- An enrolled head is changed in its place. -/
theorem State.modHead_of_some {s : State} {sp : Fin 4} {a : Fin 32} {h : Head} (e : s.head? sp a = some h)
    (f : Head → Head) : s.modHead sp a f = s.putHead sp a (f h) := by
  unfold State.modHead; rw [e]

/-! ## The pending-since moment (R164) -/

/-- A due head keeps its moment, or takes the event's. -/
theorem Head.refresh_of_due {h : Head} (n : Nat) (d : h.due = true) :
    h.refresh n = { h with pendingSince := some (h.pendingSince.getD n) } := by
  simp [Head.refresh, d]

/-- A head that is not due has no moment. -/
theorem Head.refresh_of_idle {h : Head} (n : Nat) (d : h.due = false) : h.refresh n = { h with pendingSince := none } := by
  simp [Head.refresh, d]

/-- A refresh changes the moment alone. -/
theorem Head.refresh_items (h : Head) (n : Nat) : (h.refresh n).items = h.items := rfl

/-! ## Numbers that name things -/

/-- A byte that spells a number below `n` names it. -/
theorem below_byte {n : Nat} (i : Fin n) (h : n ≤ 256) : below n (BitVec.ofNat 8 i.val).toNat = some i := by
  have : (BitVec.ofNat 8 i.val).toNat = i.val := by simp; omega
  simp [below, this]

/-- A word that spells a number below `n` names it. -/
theorem below_word {n : Nat} (i : Fin n) (h : n ≤ 65536) : below n (BitVec.ofNat 16 i.val).toNat = some i := by
  have : (BitVec.ofNat 16 i.val).toNat = i.val := by simp; omega
  simp [below, this]

/-! ## Watches (R27) -/

/-- The watches a tap fires change nothing but the latches and the Watch List. -/
theorem State.fireWatches_only (s : State) (serial : Serial) (locker : Option (Fin 1024)) (present : Bool) :
    ∃ a w, s.fireWatches serial locker present = { s with alerts := a, watches := w } := by
  unfold State.fireWatches
  generalize List.finRange 8 = l
  induction l generalizing s with
  | nil => exact ⟨_, _, rfl⟩
  | cons i l ih =>
    have one : ∃ a w, State.fireWatch serial locker present s i = { s with alerts := a, watches := w } := by
      unfold State.fireWatch
      split
      · exact ⟨_, _, rfl⟩
      · split <;> exact ⟨_, _, rfl⟩
    obtain ⟨a, w, h⟩ := one
    obtain ⟨a', w', h'⟩ := ih { s with alerts := a, watches := w }
    exact ⟨a', w', by rw [List.foldl_cons, h, h']⟩

end Sys2Proof.Machine
end

