-- ==== Sys2Proof/Laws/PerInstr.lean ====
section
/-! SUPPORT. One lemma per command about its operands: a well-formed row that stands for a frame carries one of legal
station and length, and no word of the opcode table spells a command. -/
namespace Sys2Proof.Laws.RowOperands

set_option Elab.async false

/-- What holds of every command's operands. -/
def Statement (i : Instr) : Prop :=
  (∀ k f, i.framed? = some (k, f) → i.wf = true → f.station.toNat ≤ 15 ∧ f.body.length ≤ 60)
    ∧ ∀ nbits w, decodeTableWord nbits w ≠ some i

/-- A command whose check includes its frame's. -/
theorem of_frame {i : Instr} {k : Byte} {f : Frame} (h : i.framed? = some (k, f)) (hw : i.wf = true → f.wf = true) :
    Statement i := by
  refine ⟨fun k' f' e w => ?_, fun _ _ e => by simp [decodeTableWord] at e⟩
  rw [h] at e
  cases e
  simpa [Frame.wf] using hw w

/-- A command that stands for no frame. -/
theorem of_none {i : Instr} (h : i.framed? = none) : Statement i :=
  ⟨fun _ _ e => by simp [h] at e, fun _ _ e => by simp [decodeTableWord] at e⟩

theorem coldReset (straps : BitVec 4) : Statement (.coldReset straps) := of_none rfl
theorem minuteEvent : Statement .minuteEvent := of_none rfl
theorem droppedFrame (kind : Byte) (f : Frame) (crc : BitVec 16) : Statement (.droppedFrame kind f crc) := of_none rfl
theorem trunkInterByteGap (bytes : List Byte) : Statement (.trunkInterByteGap bytes) := of_none rfl
theorem unknownFrameKind (kind : Byte) (f : Frame) :
    Statement (.unknownFrameKind kind f) := of_frame rfl (fun h => by simp_all [Instr.wf])
theorem bandIssue (f : Frame) : Statement (.bandIssue f) := of_frame rfl (fun h => by simp_all [Instr.wf])
theorem bandCredit (f : Frame) : Statement (.bandCredit f) := of_frame rfl (fun h => by simp_all [Instr.wf])
theorem bandBarOn (f : Frame) : Statement (.bandBarOn f) := of_frame rfl (fun h => by simp_all [Instr.wf])
theorem bandBarOff (f : Frame) : Statement (.bandBarOff f) := of_frame rfl (fun h => by simp_all [Instr.wf])
theorem bandVoid (f : Frame) : Statement (.bandVoid f) := of_frame rfl (fun h => by simp_all [Instr.wf])
theorem bandReplace (f : Frame) : Statement (.bandReplace f) := of_frame rfl (fun h => by simp_all [Instr.wf])
theorem bandQuery (f : Frame) : Statement (.bandQuery f) := of_frame rfl (fun h => by simp_all [Instr.wf])
theorem classLoad (f : Frame) : Statement (.classLoad f) := of_frame rfl (fun h => by simp_all [Instr.wf])
theorem tariffLoad (f : Frame) : Statement (.tariffLoad f) := of_frame rfl (fun h => by simp_all [Instr.wf])
theorem scheduleLoad (f : Frame) : Statement (.scheduleLoad f) := of_frame rfl (fun h => by simp_all [Instr.wf])
theorem controlLoad (f : Frame) : Statement (.controlLoad f) := of_frame rfl (fun h => by simp_all [Instr.wf])
theorem zoneLoad (f : Frame) : Statement (.zoneLoad f) := of_frame rfl (fun h => by simp_all [Instr.wf])
theorem serviceOut (f : Frame) : Statement (.serviceOut f) := of_frame rfl (fun h => by simp_all [Instr.wf])
theorem serviceIn (f : Frame) : Statement (.serviceIn f) := of_frame rfl (fun h => by simp_all [Instr.wf])
theorem recheck (f : Frame) : Statement (.recheck f) := of_frame rfl (fun h => by simp_all [Instr.wf])
theorem lockerSetZone (f : Frame) : Statement (.lockerSetZone f) := of_frame rfl (fun h => by simp_all [Instr.wf])
theorem lockerQuery (f : Frame) : Statement (.lockerQuery f) := of_frame rfl (fun h => by simp_all [Instr.wf])
theorem lockerQueryZone (f : Frame) : Statement (.lockerQueryZone f) := of_frame rfl (fun h => by simp_all [Instr.wf])
theorem cabinClassLoad (f : Frame) : Statement (.cabinClassLoad f) := of_frame rfl (fun h => by simp_all [Instr.wf])
theorem cabinSetClose (f : Frame) : Statement (.cabinSetClose f) := of_frame rfl (fun h => by simp_all [Instr.wf])
theorem cabinSetReopen (f : Frame) : Statement (.cabinSetReopen f) := of_frame rfl (fun h => by simp_all [Instr.wf])
theorem cabinSetClass (f : Frame) : Statement (.cabinSetClass f) := of_frame rfl (fun h => by simp_all [Instr.wf])
theorem cabinQuery (f : Frame) : Statement (.cabinQuery f) := of_frame rfl (fun h => by simp_all [Instr.wf])
theorem queueQuery (f : Frame) : Statement (.queueQuery f) := of_frame rfl (fun h => by simp_all [Instr.wf])
theorem headEnrol (f : Frame) : Statement (.headEnrol f) := of_frame rfl (fun h => by simp_all [Instr.wf])
theorem headRemove (f : Frame) : Statement (.headRemove f) := of_frame rfl (fun h => by simp_all [Instr.wf])
theorem pollPlan (f : Frame) : Statement (.pollPlan f) := of_frame rfl (fun h => by simp_all [Instr.wf])
theorem restart (f : Frame) : Statement (.restart f) := of_frame rfl (fun h => by simp_all [Instr.wf])
theorem watchSet (f : Frame) : Statement (.watchSet f) := of_frame rfl (fun h => by simp_all [Instr.wf])
theorem watchClear (f : Frame) : Statement (.watchClear f) := of_frame rfl (fun h => by simp_all [Instr.wf])
theorem alertFetch (f : Frame) : Statement (.alertFetch f) := of_frame rfl (fun h => by simp_all [Instr.wf])
theorem alertPeek (f : Frame) : Statement (.alertPeek f) := of_frame rfl (fun h => by simp_all [Instr.wf])
theorem alertClear (f : Frame) : Statement (.alertClear f) := of_frame rfl (fun h => by simp_all [Instr.wf])
theorem pause (f : Frame) : Statement (.pause f) := of_frame rfl (fun h => by simp_all [Instr.wf])
theorem resume (f : Frame) : Statement (.resume f) := of_frame rfl (fun h => by simp_all [Instr.wf])
theorem timeSet (f : Frame) : Statement (.timeSet f) := of_frame rfl (fun h => by simp_all [Instr.wf])
theorem openDay (f : Frame) : Statement (.openDay f) := of_frame rfl (fun h => by simp_all [Instr.wf])
theorem dayClose (f : Frame) : Statement (.dayClose f) := of_frame rfl (fun h => by simp_all [Instr.wf])
theorem linesLoad (f : Frame) : Statement (.linesLoad f) := of_frame rfl (fun h => by simp_all [Instr.wf])
theorem statusQuery (f : Frame) : Statement (.statusQuery f) := of_frame rfl (fun h => by simp_all [Instr.wf])
theorem replySent : Statement .replySent := of_none rfl
theorem recordSent : Statement .recordSent := of_none rfl
theorem closeWalkStep : Statement .closeWalkStep := of_none rfl
theorem closeWalkFinalStep : Statement .closeWalkFinalStep := of_none rfl
theorem pollFrameSent (spur : Fin 4) : Statement (.pollFrameSent spur) := of_none rfl
theorem replyTimeout (spur : Fin 4) : Statement (.replyTimeout spur) := of_none rfl
theorem replyCharacterGap (spur : Fin 4) (bytes : List RxByte) :
    Statement (.replyCharacterGap spur bytes) := of_none rfl
theorem replyAborted (spur : Fin 4) (bytes : List RxByte) : Statement (.replyAborted spur bytes) := of_none rfl
theorem spurReply (spur : Fin 4) (bytes : List RxByte) : Statement (.spurReply spur bytes) := of_none rfl
theorem lockerTap (spur : Fin 4) (address : Fin 32) (door : Fin 8) (serial : Serial) :
    Statement (.lockerTap spur address door serial) := of_none rfl
theorem kioskTap (spur : Fin 4) (address : Fin 32) (serial : Serial) :
    Statement (.kioskTap spur address serial) := of_none rfl
theorem outsideReaderTap (spur : Fin 4) (address : Fin 32) (serial : Serial) :
    Statement (.outsideReaderTap spur address serial) := of_none rfl
theorem insideReaderTap (spur : Fin 4) (address : Fin 32) (serial : Serial) :
    Statement (.insideReaderTap spur address serial) := of_none rfl
theorem exitTap (spur : Fin 4) (address : Fin 32) (serial : Serial) :
    Statement (.exitTap spur address serial) := of_none rfl
theorem lockerDoorReport (spur : Fin 4) (address : Fin 32) (door : Fin 8) (state : Door) :
    Statement (.lockerDoorReport spur address door state) := of_none rfl
theorem cabinDoorReport (spur : Fin 4) (address : Fin 32) (state : Door) :
    Statement (.cabinDoorReport spur address state) := of_none rfl
theorem boltResult (spur : Fin 4) (address : Fin 32) (door : Fin 8) (direction : Direction) (outcome : BoltOutcome) :
    Statement (.boltResult spur address door direction outcome) := of_none rfl
theorem attemptDeadline (door : DoorId) : Statement (.attemptDeadline door) := of_none rfl
theorem status (spur : Fin 4) (address : Fin 32) (type : HeadType) (doors : List (Door × Bolt)) :
    Statement (.status spur address type doors) := of_none rfl
theorem reserveDeadline (locker : Fin 1024) : Statement (.reserveDeadline locker) := of_none rfl
theorem entryDeadline (cabin : Fin 64) : Statement (.entryDeadline cabin) := of_none rfl
theorem warningPoint (cabin : Fin 64) : Statement (.warningPoint cabin) := of_none rfl
theorem occupancyExpiry (cabin : Fin 64) : Statement (.occupancyExpiry cabin) := of_none rfl
theorem callDeadline (cabin : Fin 64) : Statement (.callDeadline cabin) := of_none rfl
theorem lineChange (line : Fin 6) (high : Bool) : Statement (.lineChange line high) := of_none rfl
theorem settleTimer (line : Fin 6) : Statement (.settleTimer line) := of_none rfl
theorem trunkFrameAbandoned (bytes : List TrunkByte) : Statement (.trunkFrameAbandoned bytes) := of_none rfl
theorem replySegmentSent : Statement .replySegmentSent := of_none rfl

end Sys2Proof.Laws.RowOperands
end

