-- ==== Sys2Proof/Tests/Slice0.lean ====
section
/-! SUPPORT. Tests: the checks of form, the CRC and the bodies, a few commands on a small site, and for every statement
with hypotheses a state and operands that meet them. -/
namespace Sys2Proof.Tests

set_option Elab.async false
open Sys2Proof Sys2Proof.Machine Sys2Proof.Claims

/-! ## The checks of form: for each an ill-formed command, which is refused -/

def longFrame : Frame := ⟨3, List.replicate 61 0⟩

theorem test_wf_station : (Instr.pause ⟨16, []⟩).wf = false := by decide
theorem test_wf_length : (Instr.pause longFrame).wf = false := by decide
theorem test_wf_unknown_kind : (Instr.unknownFrameKind 0x10 ⟨3, []⟩).wf = false := by decide
theorem test_wf_bar_on : (Instr.bandBarOn ⟨3, [0, 0, 0, 1, 0]⟩).wf = false := by decide
theorem test_wf_bar_off : (Instr.bandBarOff ⟨3, [0, 0, 0, 1, 1]⟩).wf = false := by decide
theorem test_wf_service_out : (Instr.serviceOut ⟨3, [0, 0, 0, 1, 2, 0]⟩).wf = false := by decide
theorem test_wf_service_in : (Instr.serviceIn ⟨3, [0, 0, 0, 1, 1, 0]⟩).wf = false := by decide
theorem test_wf_recheck : (Instr.recheck ⟨3, [0, 0, 0, 1, 4, 0]⟩).wf = false := by decide
theorem test_wf_zone : (Instr.lockerSetZone ⟨3, [0, 0, 0, 1, 3, 0]⟩).wf = false := by decide
theorem test_wf_query : (Instr.lockerQuery ⟨3, [0]⟩).wf = false := by decide
theorem test_wf_query_zone : (Instr.lockerQueryZone ⟨3, [0, 0, 0, 1]⟩).wf = false := by decide
theorem test_wf_close : (Instr.cabinSetClose ⟨3, [0, 2, 0]⟩).wf = false := by decide
theorem test_wf_reopen : (Instr.cabinSetReopen ⟨3, [0, 1, 0]⟩).wf = false := by decide
theorem test_wf_class : (Instr.cabinSetClass ⟨3, [0, 1, 0]⟩).wf = false := by decide
theorem test_wf_gap : (Instr.trunkInterByteGap []).wf = false := by decide
theorem test_wf_abandoned : (Instr.trunkFrameAbandoned [⟨60, false⟩]).wf = false := by decide
theorem test_wf_reply_gap : (Instr.replyCharacterGap 0 []).wf = false := by decide
theorem test_wf_reply : (Instr.spurReply 0 []).wf = false := by decide
theorem test_wf_aborted_start : (Instr.replyAborted 0 [⟨0xC3, false, false, false⟩]).wf = false := by decide
theorem test_wf_aborted_length :
    (Instr.replyAborted 0 ([0xC3, 1, 0, 44].map (fun b => ⟨b, false, false, false⟩))).wf = false := by decide
theorem test_wf_tap : (Instr.lockerTap 0 0 0 0).wf = false ∧ (Instr.exitTap 0 3 0xFFFFFFFF).wf = false := by decide
theorem test_wf_status : (Instr.status 0 0 .lock (List.replicate 9 (.shut, .thrown))).wf = false := by decide

/-! ## Bytes -/

/-- The check value of the CRC with polynomial 1021h and initial value FFFFh over the digits 1 to 9. -/
theorem test_crc : crc16 [0x31, 0x32, 0x33, 0x34, 0x35, 0x36, 0x37, 0x38, 0x39] = 0x29B1 := by decide +kernel

theorem test_read_issue : readBody .bandIssue [0, 0, 0, 0x22, 5, 3, 0xFF, 1, 0]
    = some (.bandIssue 0x22 5 (some 0x3FF) (some 0x100)) := by decide
theorem test_read_zone : readBody .zoneLoad [255, 7, 0x27, 0x0F, 0x80, 0x01, 1, 60, 1]
    = some (.zoneLoad 255 7 9999 0x8001 .pack 60 true) := by decide
theorem test_read_reserved : readBody .restart [0x10] = none ∧ readBody .lockerSet [0, 0, 0, 1, 1, 2] = none := by decide
theorem test_read_lines : readBody .linesLoad [0x81, 2, 0, 3, 4, 0x85] = some (.linesLoad (.evacIn, true)
    (.closeKey, false) (.unmapped, false) (.attentionOut, false) (.evacOut, false) (.backpressureOut, true)) := by decide

/-- The bytes of a reply with a right CRC. -/
def replyBytes (inner : List Byte) : List RxByte :=
  ([0xC3] ++ inner ++ bytes16 (crc16 inner)).map (fun b => ⟨b, false, false, false⟩)

theorem test_reply : readReply 5 (replyBytes [5, 1, 9, 0x11, 2, 0, 0, 0, 0x22, 0x12, 3, 0])
    = some (true, [.tap 2 0x22, .door 3 .opened]) := by decide +kernel
theorem test_reply_wrong_head : readReply 6 (replyBytes [5, 0, 0]) = none := by decide +kernel
theorem test_poll_frame : (pollFrame 5 [.showAt 1 (.red .payDue 650), .actuate 3 .retract, .gate]).take 13
    = [0x3C, 5, 10, 0x01, 1, 1, 21, 2, 0x8A, 0x02, 3, 1, 0x05] := by decide +kernel
theorem test_record_bytes : (Record.mk 10 (.reserve 47 0x22 60)).bytes 7
    = [7, 8, 0, 10, 0x08, 0, 0, 0, 0x22, 0, 47, 60] := by decide

/-! ## A small site -/

/-- A present band of class 0. -/
def ana : Band := ⟨0x11, .active, 0, 7, 0, 0, 100, 50, [], none, none, 0, none⟩

/-- A locker beside a shut door. -/
def box (st : LockerState) (holder : Option Serial) : Locker := ⟨st, 0, holder, .shut, .thrown, none, none⟩

/-- An action of a locker. -/
def move (d : Direction) (p : Purpose) : Action := ⟨d, p, some 0x11, none, 1, 2000, true, false⟩

/-- A cabin of the site. -/
def room (st : CabinState) : Cabin :=
  { Cabin.fresh 0 1 with state := st, statusWait := .nothing, door := .shut, latched := CabinParams.reset }

/-- An ONLINE head with an empty list. -/
def online (e : Enrolment) : Head := ⟨.online, e, 0, false, none, false, []⟩

/-- Spur 0 with one head of each type, its exchange idle. -/
def spur0 : Spur :=
  { Spur.reset with heads := [(0, online (.lock 8)), (1, online (.cabin 0)), (2, online (.kiosk 0)), (3, online .exit)] }

/-- A site that is OPEN, with one band, one VACANT locker and one FREE cabin. -/
def site : State :=
  { State.reset with
      clock := ⟨some 600, 10, 60000, .opened, 0, .idle, 0, false⟩
      visit := [(0, ana)]
      classes := State.reset.classes.set 0 ⟨1, true, true, false, true, 5, 5, 0xF⟩
      zones := State.reset.zones.set 0 ⟨3, 40, 0xFFFF, .rotate, 60, true⟩
      lockers := [(0, box .vacant none)]
      cabins := [(0, room .free)]
      spurs := State.reset.spurs.set 0 spur0
      queue := ⟨[], 1, false⟩ }

/-- The site with another day state. -/
def onDay (d : DayState) (w : Walk) : State := { site with clock := { site.clock with day := d, walk := w } }

/-- The site in an evacuation. -/
def alarmed (s : State) : State := { s with clock := { s.clock with evacuation := true } }

/-- The site with every place of the Record Queue taken. -/
def fullQueue (s : State) : State := { s with queue := ⟨[], 128, false⟩ }

/-- The site with ana of staff. -/
def staffed (s : State) : State := { s with classes := s.classes.set 0 ⟨1, false, false, true, false, 5, 5, 0xF⟩ }

/-- The site with an exchange on spur 0. -/
def talking (p : ExchangePhase) (m : Option Nat) (removed : Bool) : State :=
  withExchange site 0 ⟨1, p, .b19200, m, removed, [], none⟩

/-- The site with a head of spur 0 in a state. -/
def headIn (a : Fin 32) (e : Enrolment) (st : HeadState) : State :=
  { site with spurs := site.spurs.set 0 { spur0 with heads := Table.put a.val { online e with state := st } spur0.heads } }

/-! ## Commands on the small site -/

/-- The field of the state a command leaves. -/
def after {α : Type} (i : Instr) (s : State) (f : State → α) : Option α :=
  match exec i s with
  | .next t => some (f t)
  | _ => none

theorem test_issue : after (.bandIssue (site.frameFor (.bandIssue 0x22 5 none none))) site
    (fun t => ((t.band? 1).map Band.serial, t.trunk.replies)) =
    some (some 0x22, [⟨0x10, .accepted (.issued 1 10 0)⟩]) := by decide +kernel
theorem test_claim : after (.lockerTap 0 0 0 0x11) site
    (fun t => ((t.locker? 0).bind Locker.holder, (t.band? 0).map Band.holdings, t.queue.reserved,
      (t.head? 0 0).map Head.items)) =
    some (some 0x11, some [0], 2, some [.showAt 0 .green, .actuate 0 .throw]) := by decide +kernel
theorem test_kiosk : after (.kioskTap 0 2 0x11) site (fun t => ((t.locker? 0).map Locker.state, t.queue.records.length,
    t.queue.reserved, t.rotors[0]!)) = some (some .reserved, 1, 2, 0) := by decide +kernel
theorem test_outside : after (.outsideReaderTap 0 1 0x11) site
    (fun t => ((t.cabin? 0).map Cabin.state, (t.head? 0 1).map Head.items)) =
    some (some .admitting, some [.showAt 0 .green, .actuate 0 .retract]) := by decide +kernel
theorem test_exit_due : after (.exitTap 0 3 0x11) (withBand site 0 { ana with credit := 0 })
    (fun t => ((t.band? 0).map Band.state, (t.head? 0 3).map Head.items)) =
    some (some .due, some [.showAt 0 (.red .payDue 50)]) := by decide +kernel
theorem test_exit_out : after (.exitTap 0 3 0x11) site (fun t => (t.visit.length, (t.head? 0 3).map Head.items)) =
    some (0, some [.showAt 0 .green, .gate]) := by decide +kernel
theorem test_minute : after .minuteEvent site (fun t => (t.clock.minuteOfDay, t.clock.siteMinute, t.now)) =
    some (some 601, 11, 60000) := by decide +kernel
theorem test_close_walk : after .closeWalkStep (onDay .closing .due) (fun t => (t.visit, t.clock.cursor, t.clock.closes)) =
    some ([], 1, 1) := by decide +kernel
theorem test_gap : after (.trunkInterByteGap ([0xA5, 0, 0x78, 0] ++ bytes16 (crc16 [0, 0x78, 0]))) site
    (fun t => (t.queue.paused, t.trunk.replies.length)) = some (true, 1) := by decide +kernel
/-- The bytes of a frame as it comes over the trunk. -/
def spelt (station : Byte) (kind : FrameKind) : List Byte :=
  [0xA5, station, kind.code, 0] ++ bytes16 (crc16 [station, kind.code, 0])

/-- A broadcast RESUME and a query behind it in one row: the record offered first is begun before the reply joins. -/
theorem test_two_frames : after (.trunkInterByteGap (spelt 15 .resume ++ spelt 0 .statusQuery))
    { site with queue := ⟨[⟨10, .dayClosed 3⟩], 0, true⟩ } (fun t => (t.trunk.arbiter, t.trunk.replies.length)) =
    some (.sendingRecord, 1) := by decide +kernel

/-- A reply that leaves the list empty and the more flag clear ends the promotion of its head. -/
theorem test_moment_cleared : after (.spurReply 0 (replyBytes [1, 0, 3, 0x12, 0, 1]))
    (withExchange ({ site with spurs := site.spurs.set 0 { spur0 with
        heads := Table.put 1 { online (.cabin 0) with more := true, pendingSince := some 5 } spur0.heads } }) 0
      ⟨1, .awaiting, .b19200, some 20, false, [], none⟩)
    (fun t => (t.head? 0 1).map Head.pendingSince) = some (some none) := by decide +kernel

/-- An item placed between the poll and the reply gives its own moment, unless the more flag of the reply is set. -/
theorem test_moment_at_reply :
    let s := withExchange ({ site with spurs := site.spurs.set 0 { spur0 with
        heads := Table.put 1 { online (.cabin 0) with items := [.gate], pendingSince := some 8 } spur0.heads } }) 0
      ⟨1, .awaiting, .b19200, some 20, false, [], some 5⟩
    after (.spurReply 0 (replyBytes [1, 0, 3, 0x12, 0, 1])) s (fun t => (t.head? 0 1).map Head.pendingSince)
        = some (some (some 8))
      ∧ after (.spurReply 0 (replyBytes [1, 1, 3, 0x12, 0, 1])) s (fun t => (t.head? 0 1).map Head.pendingSince)
        = some (some (some 5)) := by decide +kernel

/-- A RESTART keeps the requester of the action it abandons in the record. -/
theorem test_abandoned : after (.restart (site.frameFor (.restart 1)))
    (withLocker site 0 { box .locked (some 0x11) with action := some { move .retract .staffOpen with requester := some 7 } })
    (fun t => t.queue.records.map Record.body) =
    some [.abandoned (.locker 0) (some 0x11) (some 7) .staffOpen false] := by decide +kernel

theorem test_reset_idle : step State.reset = .next { State.reset with now := 1 } := by rfl

/-! ## Hypotheses met: helpers -/

def arrivesB (s : State) (t : Tap) (e : Enrolment) : Bool :=
  !s.replyDead t.spur && validSerial t.serial
    && (s.head? t.spur t.address).any (fun h => h.state == .online && h.enrolment == e)
    && match e with
      | .lock _ => (s.locker? (lockerAt t.spur t.address t.reader)).isSome
      | .cabin n => decide (t.reader.val ≤ 1) && (s.cabin? n).isSome
      | .kiosk _ => t.reader == 0
      | .exit => t.reader == 0

theorem arrives_of {s : State} {t : Tap} {e : Enrolment} (h : arrivesB s t e = true) : Arrives s t e := by
  unfold arrivesB at h
  cases e <;> cases hh : s.head? t.spur t.address <;> simp_all [Arrives, alive]

def presentB (s : State) (x : Serial) (slot : Nat) (b : Band) : Bool :=
  Table.wf s.visit && (s.findBand x == some (slot, b))

theorem present_of {s : State} {x : Serial} {slot : Nat} {b : Band} (h : presentB s x slot b = true) :
    Present s x slot b := by
  simpa [presentB, Present] using h

def passesB (s : State) (t : Tap) (e : Enrolment) (slot : Nat) (b : Band) : Bool :=
  arrivesB s t e && presentB s t.serial slot b
    && decide (s.clock.day = .opened ∨ s.clock.day = .closing ∧ (e = .exit ∨ (s.classOf b).staff = true))
    && !s.holdFires t.serial (tapLocker t e) true && decide (b.state ≠ .barred ∨ e = .exit)
    && decide (s.clock.evacuation = true → e.type = .lock ∨ e.type = .exit)

theorem passes_of {s : State} {t : Tap} {e : Enrolment} {slot : Nat} {b : Band} (h : passesB s t e slot b = true) :
    Passes s t e slot b := by
  simp only [passesB, Bool.and_eq_true, decide_eq_true_eq, Bool.not_eq_true'] at h
  exact ⟨arrives_of h.1.1.1.1.1, present_of h.1.1.1.1.2, h.1.1.1.2, h.1.1.2, h.1.2, h.2⟩

def reportsB (s : State) (sp : Fin 4) (a : Fin 32) (e : Enrolment) : Bool :=
  !s.replyDead sp && (s.head? sp a).any (fun h => h.active && h.enrolment == e)

theorem reports_of {s : State} {sp : Fin 4} {a : Fin 32} {e : Enrolment} (h : reportsB s sp a e = true) :
    Reports s sp a e := by
  unfold reportsB at h
  cases hh : s.head? sp a <;> simp_all [Reports, alive, Head.active]

def readyB (s : State) : Bool := decide (s.trunk.station.val ≤ 14) && decide (s.trunk.replies.length < 4)

theorem ready_of {s : State} (h : readyB s = true) : Ready s := by simpa [readyB, Ready] using h

def canonicalB (s : State) : Bool :=
  Table.wf s.visit && Table.wf s.lockers && Table.wf s.cabins
    && (List.finRange 4).all (fun sp => Table.wf (s.spur sp).heads)

theorem canonical_of {s : State} (h : canonicalB s = true) : TablesCanonical s := by
  simp only [canonicalB, Bool.and_eq_true, List.all_eq_true, List.mem_finRange, true_implies] at h
  exact ⟨h.1.1.1, h.1.1.2, h.1.2, h.2⟩

theorem ready_site : Ready site := ready_of (by decide)
theorem canonical_site : TablesCanonical site := canonical_of (by decide)
theorem present_ana : Present site 0x11 0 ana := present_of (by decide)

/-! ## Hypotheses met: the step and the machine -/

theorem witness_StepRunsFront : ({ site with pending := [.minuteEvent] } : State).pending = .minuteEvent :: [] := rfl
theorem witness_EveryStepAnswers : site.pending = [] := rfl

/-- The premises of the six statements on what a step keeps. -/
theorem witness_StepKeeps : QueueBounded State.reset ∧ ListsBounded State.reset ∧ RepliesBounded State.reset
    ∧ StationLegal State.reset ∧ TablesCanonical State.reset ∧ ∃ t, step State.reset = .next t := by
  refine ⟨by unfold QueueBounded; decide, ?_, by unfold RepliesBounded; decide, by unfold StationLegal; decide,
    canonical_of (by decide), ⟨_, rfl⟩⟩
  intro sp e he
  have : ∀ sp : Fin 4, (State.reset.spur sp).heads = [] := by decide
  rw [this sp] at he
  exact absurd he (by simp)

theorem witness_StepKeepsVisit : VisitConsistent State.reset ∧ ∃ t, step State.reset = .next t := by
  refine ⟨⟨by decide, by simp [State.reset], by intro e he; simp [State.reset] at he, fun _ => rfl,
    by intro h; simp [State.reset, SiteClock.reset] at h, ?_, ?_⟩, ⟨_, rfl⟩⟩
  · simp [State.reset, SiteClock.reset]
  · intro h; simp [State.reset, SiteClock.reset] at h

theorem witness_CommandServesTransmitter : ∃ t, exec .minuteEvent site = .next t := ⟨_, rfl⟩

/-- The site with two replies waiting. -/
def replying (n : Nat) : State :=
  { site with trunk := { site.trunk with arbiter := .sendingReply n
                                         replies := [⟨0x15, .refused .range⟩, ⟨0x71, .refused .format⟩] } }

/-- The site with a reply of three segments waiting. -/
def segmented (n : Nat) : State :=
  { site with trunk := { site.trunk with
      arbiter := .sendingReply n
      replies := [⟨0x43, .accepted (.queue ⟨List.replicate 16 ⟨1, 2, 3⟩, 4, 1, 1⟩)⟩] } }

/-- The site with a record waiting. -/
def recording (a : Arbiter) (paused : Bool) : State :=
  { site with queue := ⟨[⟨10, .dayClosed 3⟩], 1, paused⟩, trunk := { site.trunk with arbiter := a } }

theorem witness_ArbiterChooses :
    (replying 0).trunk.arbiter ≠ .idle
    ∧ (let s := { replying 0 with trunk := { (replying 0).trunk with arbiter := .idle } }
       s.trunk.arbiter = .idle ∧ ∃ r rs, s.trunk.replies = r :: rs)
    ∧ ((recording .idle false).trunk.arbiter = .idle ∧ (recording .idle false).trunk.replies = []
       ∧ (recording .idle false).queue.paused = false ∧ ∃ r rs, (recording .idle false).queue.records = r :: rs)
    ∧ ((recording .idle true).trunk.replies = [] ∧ (recording .idle true).queue.paused = true)
    ∧ (site.trunk.replies = [] ∧ site.queue.records = [])
    ∧ ((ReplyData.slot 5).segments[0]? = some [0, 5] ∧ 0 + 1 = (ReplyData.slot 5).segments.length) := by
  refine ⟨by decide, ⟨rfl, _, _, rfl⟩, ⟨rfl, rfl, rfl, _, _, rfl⟩, by decide, by decide, by decide⟩

theorem witness_TransmitterResult :
    ((replying 0).trunk.arbiter = .sendingReply 0 ∧ (∃ r rs, (replying 0).trunk.replies = r :: rs ∧ r.bodies.length ≤ 1))
    ∧ (∃ r rs, (segmented 0).trunk.replies = r :: rs ∧ (r.bodies[1]?).isSome = true)
    ∧ (∃ r rs, (segmented 2).trunk.replies = r :: rs ∧ r.bodies.length ≤ 3)
    ∧ (recording .sendingRecord false).trunk.arbiter = .sendingRecord
    ∧ (recording .idle false).trunk.arbiter ≠ .sendingRecord
    ∧ (∀ n, (recording .idle false).trunk.arbiter ≠ .sendingReply n)
    ∧ (∀ n, (recording .sendingRecord false).trunk.arbiter ≠ .sendingReply n) := by
  exact ⟨⟨rfl, _, _, rfl, by decide⟩, ⟨_, _, rfl, by decide⟩, ⟨_, _, rfl, by decide⟩, rfl, by decide,
    fun _ => Arbiter.noConfusion, fun _ => Arbiter.noConfusion⟩

/-! ## Hypotheses met: frames of the trunk -/

theorem witness_BodiesReadBack : (Command.bandIssue 1 0 none none).spelled
    ∧ (Command.scheduleLoad (List.replicate 20 (0, 0))).spelled ∧ (Command.lockerSet 0 1 4 15).spelled
    ∧ (Command.cabinSet 0 3 3).spelled ∧ (Command.pollPlan 0 0 (List.replicate 58 0)).spelled
    ∧ Command.pause.spelled ∧ readBody .pause [] = some .pause := by
  simp [Command.spelled, readBody, readEmpty]

theorem witness_LineSpellsFrame : site.trunk.assembly.phase = .hunt ∧ (Frame.mk 0 (List.replicate 60 1)).body.length ≤ 60 := by
  decide

theorem witness_FramesAbandoned : site.trunk.assembly = ⟨.hunt, []⟩ ∧ [1, 2, 3, 4, (5 : Byte)].length ≤ 5
    ∧ 60 < (61 : Byte).toNat ∧ ((60 : Byte).toNat ≤ 60 ∧ (List.replicate 61 (0 : Byte)).length < (60 : Byte).toNat + 2)
    ∧ ∃ t, exec (.trunkInterByteGap [0xA5, 1]) site = .next t := by
  exact ⟨by decide, by decide, by decide, by decide, _, rfl⟩

theorem witness_FramesDropped :
    frameCrc ⟨0, []⟩ FrameKind.pause.code ≠ 0 ∧ (∃ crc, frameCrc ⟨0, []⟩ FrameKind.pause.code = crc)
    ∧ (Instr.pause ⟨3, []⟩).framed? = some (FrameKind.pause.code, ⟨3, []⟩)
    ∧ ((3 : Byte).toNat ≠ site.trunk.station.val ∧ (3 : Byte) ≠ 15)
    ∧ (let s := { site with trunk := { site.trunk with replies := List.replicate 4 ⟨0x70, .refused .format⟩ } }
       (0 : Byte).toNat = s.trunk.station.val ∧ 4 ≤ s.trunk.replies.length) := by
  refine ⟨by decide +kernel, ⟨_, rfl⟩, by decide, by decide, by decide⟩

theorem witness_FormRefused :
    ((Instr.unknownFrameKind 0xFF ⟨0, []⟩).framed? = some (0xFF, ⟨0, []⟩) ∧ FrameKind.ofCode 0xFF = none)
    ∧ ((Instr.pause ⟨0, [1]⟩).framed? = some (FrameKind.pause.code, ⟨0, [1]⟩) ∧ FrameKind.ofCode FrameKind.pause.code = some .pause
      ∧ readBody .pause [1] = none)
    ∧ Ready site ∧ (0 : Byte).toNat = site.trunk.station.val := by
  exact ⟨by decide, by decide, ready_site, by decide⟩

theorem witness_OwnerAnswers : (Instr.pause ⟨0, []⟩).framed? = some (FrameKind.pause.code, ⟨0, []⟩) ∧ Ready site
    ∧ (0 : Byte).toNat = site.trunk.station.val ∧ readBody .pause [] = some .pause := by
  exact ⟨by decide, ready_site, by decide, by decide⟩

theorem witness_BroadcastUnanswered : (Instr.pause ⟨15, []⟩).framed? = some (FrameKind.pause.code, ⟨15, []⟩)
    ∧ readBody .pause [] = some .pause ∧ FrameKind.alertFetch ∈ [FrameKind.alertFetch]
    ∧ ((Instr.unknownFrameKind 0xFF ⟨15, []⟩).framed? = some (0xFF, ⟨15, []⟩) ∧ FrameKind.ofCode 0xFF = none)
    ∧ ((Instr.pause ⟨15, [1]⟩).framed? = some (FrameKind.pause.code, ⟨15, [1]⟩) ∧ readBody .pause [1] = none) := by
  decide

/-! ## Hypotheses met: bands -/

theorem witness_BandIssueResult :
    Ready site ∧ (badSerial 0 ∧ badSerial 0xFFFFFFFF ∧ 15 < (16 : Byte).toNat ∧ 1023 < (1024 : BitVec 16).toNat)
    ∧ (¬badSerial 0x22 ∧ ¬15 < (15 : Byte).toNat ∧ ¬1023 < (1023 : BitVec 16).toNat)
    ∧ (onDay .closed .idle).clock.day ≠ .opened
    ∧ (site.clock.day = .opened ∧ ∃ e ∈ site.visit, e.2.serial = 0x11)
    ∧ (∃ v : List (Nat × Band), 4096 ≤ ({ site with visit := v } : State).visit.length ∧ ¬∃ e ∈ v, e.2.serial = 0x22)
    ∧ (site.visit.length < 4096 ∧ ¬∃ e ∈ site.visit, e.2.serial = 0x22) ∧ site.clock.minuteOfDay = some 600 := by
  refine ⟨ready_site, by unfold badSerial; decide, by unfold badSerial; decide, by decide, by decide,
    ⟨List.replicate 4096 (0, ana), Nat.le_of_eq List.length_replicate.symm, ?_⟩, by decide, by decide⟩
  rintro ⟨e, he, h⟩
  rw [List.eq_of_mem_replicate he] at h
  exact absurd h (by decide)

theorem witness_bands : Ready site ∧ badSerial 0 ∧ ¬badSerial 0x11 ∧ site.findBand 0x22 = none
    ∧ Present site 0x11 0 ana
    ∧ Present (withBand site 0 { ana with state := .barred }) 0x11 0 { ana with state := .barred }
    ∧ (onDay .closed .idle).clock.day = .closed ∧ site.clock.day ≠ .closed := by
  refine ⟨ready_site, by unfold badSerial; decide, by unfold badSerial; decide, by decide, present_ana,
    present_of (by decide), by decide, by decide⟩

/-- The site with ana holding two LOCKED lockers, called to cabin 0, and waiting in no queue. -/
def leaving : State :=
  { withCabin (withBand site 0 { ana with holdings := [0, 5], cabinLink := some ⟨0, .called⟩ }) 0
      { room .called with band := some 0x11 } with
    lockers := [(0, box .locked (some 0x11)), (5, box .locked (some 0x11))] }

theorem witness_RemovalRoutine : TablesCanonical site ∧ site.band? 0 = some ana ∧ ana.holdings.Nodup
    ∧ (TablesCanonical leaving
      ∧ leaving.band? 0 = some { ana with holdings := [0, 5], cabinLink := some ⟨0, .called⟩ }
      ∧ [(0 : Fin 1024), 5].Nodup
      ∧ [(0 : Fin 1024), 5].filter (fun n => (leaving.locker? n).any (fun l => l.state == .locked && l.action.isNone))
        = [0] ++ [5])
    ∧ (leaving.cabin? 0 = some { room .called with band := some 0x11 } ∧ 0 < leaving.queue.reserved
      ∧ leaving.clock.evacuation = false)
    ∧ (let b := { ana with cabinLink := some ⟨0, .occupant⟩, queueLink := some ⟨0, 4⟩ }
       (withBand site 0 b).band? 0 = some b ∧ TablesCanonical (withBand site 0 b))
    ∧ (0 : Fin 1024) ∉ ana.holdings ∧ site.cabin? 0 = some (room .free) := by
  exact ⟨canonical_site, by decide, by decide, ⟨canonical_of (by decide), by decide, by decide, by decide⟩, by decide,
    ⟨by decide, canonical_of (by decide)⟩, by decide, by decide⟩

theorem witness_BandReplaceResult :
    (∃ e ∈ site.visit, e.2.serial = 0x11) ∧ (∀ e ∈ site.visit, e.2.serial ≠ 0x22)
    ∧ ¬(badSerial 0x11 ∨ badSerial 0x22) ∧ (badSerial 0x11 ∨ badSerial 0) := by
  exact ⟨by decide, by decide, by unfold badSerial; decide, by unfold badSerial; decide⟩

/-! ## Hypotheses met: queries, loads and settings -/

theorem witness_QueriesReport : Ready site ∧ Present site 0x11 0 ana
    ∧ (site.cabin? 0 = some (room .free) ∧ site.cabin? 63 = none)
    ∧ ((1023 : BitVec 16).toNat ≤ 1023 ∧ ¬(1024 : BitVec 16).toNat ≤ 1023)
    ∧ (Table.get? 0 site.lockers).isSome = true ∧ (Table.get? 1023 site.lockers).isSome = false
    ∧ 15 < (16 : Byte).toNat ∧ 63 < (64 : Byte).toNat ∧ 3 < (4 : Byte).toNat ∧ 8 < (9 : Byte).toNat := by
  exact ⟨ready_site, present_ana, by decide, by decide, by decide, by decide, by decide, by decide, by decide, by decide⟩

theorem witness_LoadsStore : Ready site ∧ 15 < (16 : Byte).toNat ∧ (15 : Byte).toNat < 16 ∧ 3 < (4 : Byte).toNat
    ∧ (3 : Byte).toNat < 4 ∧ (255 : Byte) = 255 ∧ ((16 : Byte) ≠ 255 ∧ 15 < (16 : Byte).toNat)
    ∧ (∃ e ∈ (withLocker site 0 { box .vacant none with action := some { move .throw .claim with attempt := 2 } }).lockers,
        ∃ x, e.2.action = some x ∧ 0 + 1 < x.attempt) := by
  exact ⟨ready_site, by decide, by decide, by decide, by decide, rfl, by decide, _, List.mem_singleton.mpr rfl, _, rfl,
    by decide⟩

theorem witness_ScheduleLoadResult :
    ([((0 : BitVec 16), (0 : Byte)), (1439, 3)].length ≤ 20
      ∧ [((0 : BitVec 16), (0 : Byte)), (1439, 3)].Pairwise (fun p q => p.1.toNat < q.1.toNat))
    ∧ ¬[((1440 : BitVec 16), (0 : Byte))].all (fun p => p.1.toNat ≤ 1439 && p.2.toNat ≤ 3)
    ∧ ([] ++ (⟨360, 1⟩ : Period) :: [⟨720, 2⟩]).Pairwise (fun p q : Period => p.start < q.start)
    ∧ ((360 : Nat) ≤ 719 ∧ ∀ q ∈ [(⟨720, 2⟩ : Period)], 719 < q.start)
    ∧ (∀ q ∈ [] ++ [(⟨360, 1⟩ : Period)], 359 < q.start) := by
  decide

theorem witness_WatchResult : Ready site ∧ ¬badSerial 0x11 ∧ (1 : Byte).toNat ≤ 1 ∧ (0 : Fin 1024) ≤ 1023
    ∧ 7 < (8 : Byte).toNat ∧ badSerial 0 ∧ ¬((1 : BitVec 16).toNat ≤ (0 : BitVec 16).toNat ∧ (0 : BitVec 16).toNat ≤ 1023)
    ∧ 1 < (2 : Byte).toNat := by
  exact ⟨ready_site, by unfold badSerial; decide, by decide, by decide, by decide, by unfold badSerial; decide, by decide,
    by decide⟩

/-- The site with a full JAMMED latch. -/
def noticedSite : State := noticed site .jammed (.locker 0) .found

theorem witness_AlertFetchResult : (∀ c ∈ AlertClass.all, (site.alerts[c.index]).notice = none)
    ∧ noticedSite.alerts[AlertClass.jammed.index] = ⟨some ⟨10, .locker 0, .found⟩, 1⟩
    ∧ (∀ d ∈ AlertClass.all, d.number < AlertClass.jammed.number → (noticedSite.alerts[d.index]).notice = none) := by
  decide

/-- PAUSE, the loads and ALERT_CLEAR need no more than a place for the reply. -/
theorem witness_replies_only : Ready site ∧ Ready State.reset := ⟨ready_site, ready_of (by decide)⟩

/-! ## Hypotheses met: lockers, cabins, heads and spurs commanded -/

theorem witness_LockerSetResult : Ready site ∧ TablesCanonical site ∧ (0 : Fin 1024) ≤ 1023
    ∧ ((0 : Byte) = 0 ∧ 4 < (5 : Byte).toNat ∧ 15 < (16 : Byte).toNat)
    ∧ (1023 < (1024 : BitVec 16).toNat ∧ (4 : BitVec 16).toNat < (5 : BitVec 16).toNat)
    ∧ site.lockersIn 1 1023 = [] ∧ site.lockersIn 0 1023 ≠ []
    ∧ ((withLocker site 0 (box .locked (some 0x11))).lockersIn 0 0).filter
        (fun n => ((withLocker site 0 (box .locked (some 0x11))).locker? n).any (fun x => x.holder.isSome)) ≠ []
    ∧ (let s := withLocker site 0 { box .outOfService none with action := some (move .retract .staffOpen) }
       (s.lockersIn 0 0).filter (fun n => (s.locker? n).any (fun x => x.action.isSome)) ≠ []) := by
  exact ⟨ready_site, canonical_site, by decide, by decide, by decide, by decide, by decide, by decide, by decide⟩

theorem witness_CabinSetResult : Ready site ∧ 63 < (64 : Byte).toNat ∧ 3 < (4 : Byte).toNat ∧ site.cabin? 63 = none
    ∧ site.cabin? 0 = some (room .free)
    ∧ (withCabin site 0 (room .disabled)).cabin? 0 = some (room .disabled)
    ∧ (withCabin site 0 (room .occupied)).cabin? 0 = some (room .occupied)
    ∧ (room .occupied).state ≠ .free ∧ (room .occupied).state ≠ .disabled
    ∧ ({ room .disabled with action := some (move .throw .reset) } : Cabin).action ≠ none := by
  exact ⟨ready_site, by decide, by decide, by decide, by decide, by decide, by decide, by decide, by decide, by decide⟩

/-- The site with ana at the head of the queue of class 0. -/
def queued : State :=
  { withBand site 0 { ana with queueLink := some ⟨0, 4⟩ } with
      classQueues := site.classQueues.set 0 [⟨0x11, 4, 9⟩] }

theorem witness_CallStepRule : queued.cabin? 0 = some (room .free) ∧ queued.classQueues[(0 : Fin 4)] = ⟨0x11, 4, 9⟩ :: []
    ∧ (queued.clock.evacuation = false ∧ queued.clock.day = .opened ∧ queued.queue.sum < 128)
    ∧ 128 ≤ (fullQueue queued).queue.sum ∧ (alarmed queued).clock.evacuation = true
    ∧ Present queued 0x11 0 { ana with queueLink := some ⟨0, 4⟩ } ∧ site.classQueues[(0 : Fin 4)] = [] := by
  exact ⟨by decide, by decide, by decide, by decide, by decide, present_of (by decide), by decide⟩

theorem witness_HeadEnrolResult : Ready site
    ∧ (3 < (4 : Byte).toNat ∧ 31 < (32 : Byte).toNat ∧ 8 < (9 : Byte).toNat ∧ 63 < (64 : Byte).toNat ∧ 15 < (16 : Byte).toNat)
    ∧ (∀ k, Enrolment.lock 8 = .lock k → 1 ≤ k ∧ k ≤ 8)
    ∧ (∃ n, Enrolment.cabin 0 = .cabin n ∧ ∃ (q : Fin 4) (x : Nat × Head), x ∈ (site.spurs[q]).heads
        ∧ x.2.enrolment = .cabin n ∧ (q, x.1) ≠ ((1 : Fin 4), 1))
    ∧ (site.head? 0 0 = some (online (.lock 8)) ∧ (online (.lock 8)).state ≠ .mismatched)
    ∧ (site.head? 3 31 = none ∧ ¬∃ n, Enrolment.lock 8 = .cabin n)
    ∧ (headIn 2 (.kiosk 0) .mismatched).head? 0 2 = some { online (.kiosk 0) with state := .mismatched }
    ∧ Enrolment.kiosk 0 ≠ .exit ∧ (∀ r, ¬Held (headIn 2 (.kiosk 0) .mismatched) 0 2 (.kiosk 0) r)
    ∧ Held (withLocker (headIn 0 (.lock 8) .mismatched) 0 (box .locked (some 0x11))) 0 0 (.lock 8) .inUse := by
  refine ⟨ready_site, by decide, ?_, ⟨0, rfl, 0, (1, online (.cabin 0)), by decide, rfl, by decide⟩, by decide,
    ⟨by decide, by simp⟩, by decide, by decide, by intro r h; exact h,
    ⟨rfl, 0, box .locked (some 0x11), by decide, by decide⟩⟩
  intro k h
  cases h
  decide

theorem witness_HeadRemoveAndPlanResult : Ready site ∧ site.head? 0 4 = none
    ∧ site.head? 0 0 = some (online (.lock 8))
    ∧ Held (withCabin site 0 (room .occupied)) 0 1 (.cabin 0) .inUse
    ∧ Held (withCabin site 0 { room .disabled with action := some (move .throw .reset) }) 0 1 (.cabin 0) .busy
    ∧ (∀ r, ¬Held site 0 3 .exit r)
    ∧ ([0, 1, 2, (3 : Fin 32)].length ≤ 4 ∧ [0, 1, 2, (3 : Fin 32)].Nodup ∧ ¬[(1 : Byte), 1].Nodup)
    ∧ (BitRate.b9600 ≠ (site.spurs[(0 : Fin 4)]).rate
      ∧ ∃ x ∈ (noticedSite.place 0 0 .ident).spurs[(0 : Fin 4)].heads, x.2.items ≠ []) := by
  refine ⟨ready_site, by decide, by decide, ⟨room .occupied, by decide, Or.inl (by decide)⟩,
    ⟨{ room .disabled with action := some (move .throw .reset) }, by decide, Or.inr (by decide)⟩,
    by intro r h; exact h, by decide, by decide, by decide⟩

/-- The site with a locker and an admission in movement, and a place for each. -/
def moving : State :=
  { withCabin (withLocker site 0 { box .locked (some 0x11) with action := some (move .retract .opening) }) 0
      { room .admitting with band := some 0x11, action := some (move .retract .admission) } with
    queue := ⟨[], 2, false⟩ }

theorem distinct_ana : serialsDistinct [(0, ana)] := by
  intro e he f hf _
  rw [List.mem_singleton.mp he, List.mem_singleton.mp hf]

theorem witness_RestartResult : Ready site ∧ TablesCanonical site
    ∧ (TablesCanonical moving ∧ serialsDistinct moving.visit
      ∧ (moving.movingLockers 0).length + (moving.movingCabins 0).length ≤ moving.queue.reserved
      ∧ ((moving.restartSpur 0).spurs[(0 : Fin 4)]).exchange = some ⟨0, .sending, .b19200, none, false, [], some moving.eventNo⟩)
    ∧ moving.band? 0 = some ana ∧ moving.band? 1 = none := by
  exact ⟨ready_site, canonical_site, ⟨canonical_of (by decide), distinct_ana, by decide, by decide +kernel⟩, by decide,
    by decide⟩

/-! ## Hypotheses met: the clock, the day, the lines -/

theorem witness_TimeSetResult : Ready site ∧ 1439 < (1440 : BitVec 16).toNat ∧ (1439 : BitVec 16).toNat ≤ 1439
    ∧ site.clock.minuteOfDay.isSome = true ∧ (∀ x, Instr.minuteEvent ≠ .coldReset x)
    ∧ ∃ t, exec .minuteEvent site = .next t := by
  exact ⟨ready_site, by decide, by decide, by decide, by simp, _, rfl⟩

theorem witness_ClockAndDayResult : Ready site ∧ site.clock.day ≠ .closed
    ∧ (State.reset.clock.day = .closed ∧ State.reset.clock.minuteOfDay = none)
    ∧ ((onDay .closed .idle).clock.day = .closed ∧ (onDay .closed .idle).clock.minuteOfDay = some 600)
    ∧ (onDay .closed .idle).clock.day ≠ .opened ∧ site.clock.day = .opened := by
  exact ⟨ready_site, by decide, by decide, by decide, by decide, by decide⟩

/-- The site with line 0 settling to a level. -/
def settling (f : LineFunction) (high : Bool) (s : State) : State :=
  { s with lines := s.lines.set 0 ⟨f, false, !high, high, some 50⟩ }

theorem witness_LinesResult : Ready site ∧ (site.lines[(0 : Fin 6)]).settle = none
    ∧ ((settling .evacIn true site).lines[(0 : Fin 6)]).settle = some 50
    ∧ ((settling .evacIn true site).clock.evacuation = false ∧ (alarmed (settling .evacIn true site)).clock.evacuation = true)
    ∧ (¬∃ j : Fin 6, (site.lines[j]).function = .evacIn ∧ (site.lines[j]).taken = true)
    ∧ (((settling .closeKey true site).lines[(0 : Fin 6)]).function = .closeKey ∧ site.clock.day = .opened)
    ∧ (onDay .closing .due).clock.day ≠ .opened
    ∧ ((settling .unmapped true site).lines[(0 : Fin 6)]).function = .unmapped
    ∧ ∀ f ∈ [LineFunction.attentionOut, .evacOut, .backpressureOut],
      ((settling f true site).lines[(0 : Fin 6)]).function = f := by
  exact ⟨ready_site, by decide, by decide, by decide, by decide, by decide, by decide, by decide, by decide⟩

theorem witness_EvacuationRule : TablesCanonical site ∧ site.cabin? 0 = some (room .free) ∧ (room .free).state ≠ .disabled
    ∧ (withCabin site 0 (room .evacuated)).cabin? 0 = some (room .evacuated) ∧ (room .free).state ≠ .evacuated
    ∧ TablesCanonical (withCabin site 0 { room .evacuated with action := some (move .retract .evac) })
    ∧ (withCabin site 0 (room .disabled)).cabin? 0 = some (room .disabled) ∧ site.cabin? 5 = none
    ∧ (TablesCanonical moving ∧ serialsDistinct moving.visit ∧ moving.band? 0 = some ana
      ∧ (moving.cabin? 0).all (fun c => (evacuationEntry moving.now 0 c).isSome) = true ∧ 0 < moving.queue.reserved) := by
  exact ⟨canonical_site, by decide, by decide, by decide, by decide, canonical_of (by decide), by decide, by decide,
    canonical_of (by decide), distinct_ana, by decide, by decide, by decide⟩

theorem witness_CloseWalkResult : site.clock.walk ≠ .due
    ∧ ((onDay .closing .due).clock.walk = .due ∧ Table.wf (onDay .closing .due).visit = true
      ∧ (onDay .closing .due).band? 0 = some ana ∧ (onDay .closing .due).clock.cursor ≤ 0)
    ∧ (onDay .closing .due).queue.sum < 128 ∧ 128 ≤ (fullQueue (onDay .closing .due)).queue.sum
    ∧ (let s := { onDay .closing .due with visit := [] }
       s.clock.walk = .due ∧ Table.wf s.visit = true ∧ ∀ k, s.clock.cursor ≤ k → s.band? k = none) := by
  refine ⟨by decide, by decide, by decide, by decide, by decide, by decide, fun k _ => rfl⟩

/-! ## Hypotheses met: the exchanges of a spur -/

theorem witness_ExchangeResult : TablesCanonical site ∧ (site.spurs[(0 : Fin 4)]).exchange = none
    ∧ ((talking .sending none false).spurs[(0 : Fin 4)]).exchange = some ⟨1, .sending, .b19200, none, false, [], none⟩
    ∧ ((talking .awaiting (some 20) true).spurs[(0 : Fin 4)]).exchange = some ⟨1, .awaiting, .b19200, some 20, true, [], none⟩
    ∧ TablesCanonical (talking .awaiting (some 20) false)
    ∧ (∀ a, site.head? 1 a = none) ∧ site.head? 0 0 = some (online (.lock 8)) := by
  exact ⟨canonical_site, by decide, by decide, by decide, canonical_of (by decide), by decide, by decide⟩

/-- A shared poll where nothing is due, a promoted one of a head with an item, and a fast one. -/
theorem witness_PollsNext :
    PollsNext spur0 0 { spur0 with cursor := 0 }
    ∧ (let p := { spur0 with heads := Table.put 3 { online .exit with items := [.gate], pendingSince := some 4 } spur0.heads }
       PollsNext p 3 { p with round := some ⟨[], [], 1, [3]⟩ })
    ∧ (let p := { spur0 with fastList := [9, 2] }
       PollsNext p 2 { p with round := some ⟨[9, 2], [], 2, [2]⟩ }) := by
  have idle : ∀ b : Fin 32, ((Table.get? b.val spur0.heads).any Head.due) = false := by decide
  refine ⟨Or.inr ⟨fun r h => by simp [spur0, Spur.reset] at h, Or.inr (Or.inr ⟨by simp [spur0, Spur.reset], ?_, ?_, ?_,
      by decide⟩)⟩,
    Or.inr ⟨fun r h => by simp [spur0, Spur.reset] at h, Or.inr (Or.inl ⟨by simp [spur0, Spur.reset], ⟨by decide, by decide,
      4, ⟨_, rfl, Or.inr rfl, Or.inl (by simp), rfl⟩, ?_⟩, by decide⟩)⟩,
    Or.inr ⟨fun r h => by simp [spur0, Spur.reset] at h, Or.inl ⟨[9], [], rfl, ⟨_, rfl, Or.inr rfl⟩, ?_, by decide⟩⟩⟩
  · rintro b ⟨_, _, m, ⟨h, e, ha, hi, _⟩, _⟩
    have := idle b
    rw [e] at this
    rcases ha with ha | ha <;> rcases hi with hi | hi | hi <;> simp_all [Head.due, Head.active]
  · exact ⟨by decide, by rintro ⟨h, _⟩; exact absurd h (by simp [spur0, Spur.reset])⟩
  · intro b _
    show (0 : Fin 32) ≤ _
    exact Fin.zero_le _
  · rintro b k ⟨h, e, ha, hi, hk⟩ _
    have due : ∀ b : Fin 32, b ≠ 3 → ((Table.get? b.val
        (Table.put 3 { online .exit with items := [.gate], pendingSince := some 4 } spur0.heads)).any Head.due) = false := by
      decide
    by_cases h3 : b = 3
    · subst h3
      have e' : Table.get? (3 : Fin 32).val
          (Table.put 3 { online .exit with items := [.gate], pendingSince := some 4 } spur0.heads)
        = some { online .exit with items := [.gate], pendingSince := some 4 } := by decide
      rw [e'] at e
      cases e
      exact Or.inr ⟨Option.some.inj hk, Nat.le_refl _⟩
    · have := due b h3
      rw [e] at this
      rcases ha with ha | ha <;> rcases hi with hi | hi | hi <;> simp_all [Head.due, Head.active]
  · rintro x hx ⟨h, e, _⟩
    have n9 : Table.get? (9 : Fin 32).val spur0.heads = none := by decide
    rw [List.mem_singleton.mp hx] at e
    exact absurd (n9.symm.trans e) (by simp)

theorem witness_SpurReplyResult :
    ((talking .awaiting (some 20) false).spurs[(0 : Fin 4)]).exchange = some ⟨1, .awaiting, .b19200, some 20, false, [], none⟩
    ∧ readReply 1 (replyBytes [1, 0, 0, 7]) = none
    ∧ readReply 1 (replyBytes [1, 0, 3, 0x12, 0, 1]) = some (false, [.door 0 .shut])
    ∧ (talking .awaiting (some 20) false).head? 0 1 = some (online (.cabin 0))
    ∧ (headIn 1 (.cabin 0) .mismatched).head? 0 1 = some { online (.cabin 0) with state := .mismatched } := by
  decide +kernel

theorem witness_CommandListRules :
    ((∀ x ∈ (online .exit).items, (CmdItem.gate).replaces x = false) ∧ (online .exit).items.length < 16)
    ∧ (let h : Head := { online .exit with items := [.ident, .gate] }
       h.items = [.ident] ++ .gate :: [] ∧ (CmdItem.gate).replaces .gate = true
         ∧ ∀ y ∈ [CmdItem.ident] ++ [], (CmdItem.gate).replaces y = false)
    ∧ (let h : Head := { online .exit with items := List.replicate 16 .gate }
       (∀ x ∈ h.items, CmdItem.ident.replaces x = false) ∧ 16 ≤ h.items.length ∧ h.items.length ≤ 16
         ∧ h.carried ≠ [] ∧ h.identOwed = false
         ∧ (∀ x ∈ { h with items := List.replicate 16 (.lamp .off) }.items, CmdItem.gate.replaces x = false)
         ∧ .ident ∉ List.replicate 16 (CmdItem.lamp .off))
    ∧ (let h : Head := { online .exit with items := .lamp .off :: .ident :: List.replicate 14 (.lamp .off) }
       (∀ x ∈ h.items, CmdItem.gate.replaces x = false) ∧ 16 ≤ h.items.length ∧ CmdItem.gate ≠ .ident
         ∧ h.items = [.lamp .off] ++ .ident :: List.replicate 14 (.lamp .off) ∧ .ident ∉ [CmdItem.lamp .off])
    ∧ site.head? 0 3 = some (online .exit) ∧ site.head? 0 4 = none
    ∧ ((∀ dir ∈ [Direction.throw, .retract], CmdItem.actuate 2 dir ∉ (online .exit).items)
      ∧ (let h : Head := { online (.lock 8) with items := [.gate, .actuate 2 .throw, .ident], identOwed := true }
         h.items = [.gate] ++ .actuate 2 .throw :: [.ident] ∧ h.items.length ≤ 16
           ∧ ∀ dir ∈ [Direction.throw, .retract], CmdItem.actuate 2 dir ∉ [CmdItem.gate] ++ [.ident]))
    ∧ site.locker? 0 = some (box .vacant none) ∧ site.cabin? 0 = some (room .free) := by
  decide

/-! ## Hypotheses met: taps -/

/-- Taps of ana at each head. -/
def tapAt (a : Fin 32) (r : Fin 8) : Tap := ⟨0, a, r, 0x11⟩

/-- The site with a watch on ana. -/
def watchedSite (m : WatchMode) : State := { site with watches := site.watches.set 0 (some ⟨.band 0x11, m, true⟩) }

theorem witness_FrontAnswers :
    (Enrolment.lock 8 = .lock 8 ∧ site.locker? (lockerAt 0 0 7) = none) ∧ (∀ h, (headIn 0 (.lock 8) .identifying).head? 0 0 = some h → h.state ≠ .online)
    ∧ Arrives (onDay .closed .idle) (tapAt 0 0) (.lock 8) ∧ Arrives (onDay .closing .due) (tapAt 2 0) (.kiosk 0)
    ∧ Arrives site ⟨0, 0, 0, 0x99⟩ (.lock 8) ∧ site.findBand 0x99 = none
    ∧ Arrives (withBand site 0 { ana with state := .barred }) (tapAt 1 1) (.cabin 0)
    ∧ Arrives (alarmed site) (tapAt 1 0) (.cabin 0) ∧ Arrives site (tapAt 3 0) .exit
    ∧ (∃ w, Fires (watchedSite .hold) (tapAt 0 0) (.lock 8) true 0 w ∧ w.mode = .hold)
    ∧ (∀ j, 0 < j → ∀ v, ¬Fires (watchedSite .hold) (tapAt 0 0) (.lock 8) true j v)
    ∧ (∀ i w, ¬Fires site (tapAt 0 0) (.lock 8) true i w)
    ∧ ([0] ≠ ([] : List (Fin 8)) ∧ [(0 : Fin 8)].Nodup
      ∧ ∀ i : Fin 8, i ∈ [(0 : Fin 8)] ↔ ∃ w, Fires (watchedSite .hold) (tapAt 0 0) (.lock 8) true i w) := by
  refine ⟨by decide, ?_, arrives_of (by decide), arrives_of (by decide), arrives_of (by decide), by decide, arrives_of (by decide),
    arrives_of (by decide), arrives_of (by decide), ⟨_, ⟨rfl, rfl, rfl, rfl⟩, rfl⟩, ?_, ?_, by decide, by decide, ?_⟩
  · intro h e
    have : (headIn 0 (.lock 8) .identifying).head? 0 0 = some { online (.lock 8) with state := .identifying } := by decide
    rw [this] at e
    cases e
    decide
  · have clear : ∀ j : Fin 8, 0 < j → (watchedSite .hold).watches[j] = none := by decide
    intro j hj v h
    exact absurd ((clear j hj).symm.trans h.1) (by simp)
  · have clear : ∀ i : Fin 8, site.watches[i] = none := by decide
    intro i w h
    exact absurd ((clear i).symm.trans h.1) (by simp)
  · have clear : ∀ j : Fin 8, j ≠ 0 → (watchedSite .hold).watches[j] = none := by decide
    intro i
    rw [List.mem_singleton]
    constructor
    · rintro rfl
      exact ⟨_, rfl, rfl, rfl, rfl⟩
    · rintro ⟨w, h⟩
      exact Decidable.byContradiction fun hi => absurd ((clear i hi).symm.trans h.1) (by simp)

/-- A tap that passes at a locker, and the entry of the locker, with no action in flight. -/
def atLocker (s : State) (l : Locker) : Prop :=
  Passes s (tapAt 0 0) (.lock 8) 0 ana ∧ s.locker? (lockerAt 0 0 0) = some l ∧ l.action = none

theorem atLocker_of {s : State} {l : Locker} (h : passesB s (tapAt 0 0) (.lock 8) 0 ana = true)
    (h2 : s.locker? (lockerAt 0 0 0) = some l ∧ l.action = none) : atLocker s l := ⟨passes_of h, h2⟩

/-- The site with zone 0 changed. -/
def zoned (z : Zone) : State := { site with zones := site.zones.set 0 z }

/-- One state for each branch of the decision at a VACANT locker, in its order, and for each at a RESERVED one. -/
theorem witness_ClaimTapResult :
    atLocker (withLocker site 0 { box .vacant none with door := .opened }) { box .vacant none with door := .opened }
    ∧ atLocker (withLocker site 0 { box .vacant none with door := .unknown }) { box .vacant none with door := .unknown }
    ∧ atLocker (alarmed site) (box .vacant none)
    ∧ atLocker (zoned ⟨0, 0, 0xFFFF, .rotate, 60, false⟩) (box .vacant none)
    ∧ atLocker (zoned ⟨2, 0, 0xFFFF, .rotate, 60, false⟩) (box .vacant none)
    ∧ atLocker (zoned ⟨3, 0, 0, .rotate, 60, false⟩) (box .vacant none)
    ∧ Passes (withBand site 0 { ana with holdings := [5] }) (tapAt 0 0) (.lock 8) 0 { ana with holdings := [5] }
    ∧ atLocker (fullQueue site) (box .vacant none) ∧ atLocker site (box .vacant none)
    ∧ atLocker (withLocker site 0 (box .reserved none)) (box .reserved none)
    ∧ atLocker (alarmed (withLocker site 0 (box .reserved (some 0x11)))) (box .reserved (some 0x11))
    ∧ atLocker (withLocker site 0 { box .reserved (some 0x11) with door := .unknown })
        { box .reserved (some 0x11) with door := .unknown }
    ∧ atLocker (withLocker site 0 (box .reserved (some 0x11))) (box .reserved (some 0x11)) := by
  exact ⟨atLocker_of (by decide) (by decide), atLocker_of (by decide) (by decide), atLocker_of (by decide) (by decide),
    atLocker_of (by decide) (by decide), atLocker_of (by decide) (by decide), atLocker_of (by decide) (by decide),
    passes_of (by decide), atLocker_of (by decide) (by decide), atLocker_of (by decide) (by decide),
    atLocker_of (by decide) (by decide), atLocker_of (by decide) (by decide), atLocker_of (by decide) (by decide),
    atLocker_of (by decide) (by decide)⟩

/-- The site with a group mate of ana. -/
def mated (st : LockerState) : State :=
  { withLocker site 0 (box st (some 0x12)) with visit := [(0, ana), (1, { ana with serial := 0x12 })] }

/-- The holder, a mate, staff and another at a LOCKED, a RELEASED and a staff-only locker; a locker in movement. -/
theorem witness_LockerTapResult :
    Passes (withLocker site 0 { box .locked (some 0x11) with action := some (move .retract .opening) }) (tapAt 0 0)
      (.lock 8) 0 ana
    ∧ atLocker (withLocker site 0 (box .locked (some 0x11))) (box .locked (some 0x11))
    ∧ (atLocker (mated .locked) (box .locked (some 0x12)) ∧ Mate (mated .locked) ana (box .locked (some 0x12)))
    ∧ (atLocker (staffed (withLocker site 0 (box .locked (some 0x99)))) (box .locked (some 0x99))
      ∧ ¬Mate (staffed site) ana (box .locked (some 0x99)))
    ∧ (atLocker (withLocker site 0 (box .locked (some 0x99))) (box .locked (some 0x99))
      ∧ ¬Mate site ana (box .locked (some 0x99)) ∧ ¬(site.classes[ana.cls]).staff = true)
    ∧ atLocker (withLocker site 0 (box .released (some 0x11))) (box .released (some 0x11))
    ∧ atLocker (withLocker site 0 { box .released (some 0x11) with door := .opened })
        { box .released (some 0x11) with door := .opened }
    ∧ atLocker (withLocker site 0 (box .released (some 0x99))) (box .released (some 0x99))
    ∧ atLocker (withLocker site 0 (box .inspect none)) (box .inspect none)
    ∧ atLocker (staffed (withLocker site 0 (box .jammed none))) (box .jammed none) := by
  have none99 : ∀ s : State, s.findBand 0x99 = none → ¬Mate s ana (box .locked (some 0x99)) := by
    rintro s hs ⟨_, _, x, k, h, e, f, _⟩
    have : x = 0x99 := (Option.some.inj e).symm
    subst this
    rw [hs] at f
    exact absurd f (by simp)
  exact ⟨passes_of (by decide), atLocker_of (by decide) (by decide),
    ⟨atLocker_of (by decide) (by decide), by decide, by decide, 0x12, 1, { ana with serial := 0x12 }, rfl, by decide, rfl⟩,
    ⟨atLocker_of (by decide) (by decide), none99 _ (by decide)⟩,
    ⟨atLocker_of (by decide) (by decide), none99 _ (by decide), by decide⟩,
    atLocker_of (by decide) (by decide), atLocker_of (by decide) (by decide), atLocker_of (by decide) (by decide),
    atLocker_of (by decide) (by decide), atLocker_of (by decide) (by decide)⟩

theorem witness_KioskTapResult :
    (Passes site (tapAt 2 0) (.kiosk 0) 0 ana ∧ TablesCanonical site ∧ Chosen site 0 0
      ∧ site.locker? 0 = some (box .vacant none) ∧ site.queue.sum ≤ 126)
    ∧ (Passes (fullQueue site) (tapAt 2 0) (.kiosk 0) 0 ana ∧ 126 < (fullQueue site).queue.sum)
    ∧ (let s := withLocker site 0 (box .locked none)
       Passes s (tapAt 2 0) (.kiosk 0) 0 ana ∧ ∀ n, ¬Offered s 0 n)
    ∧ (let b := { ana with holdings := [0] }
       let s := withLocker (withBand site 0 b) 0 (box .reserved (some 0x11))
       Passes s (tapAt 2 0) (.kiosk 0) 0 b
         ∧ b.holdings.find? (fun n => (s.locker? n).any (fun l => l.state == .reserved && l.zone == 0)) = some 0)
    ∧ Passes (zoned ⟨0, 0, 0xFFFF, .pack, 60, false⟩) (tapAt 2 0) (.kiosk 0) 0 ana
    ∧ Passes (zoned ⟨3, 0, 0, .pack, 60, false⟩) (tapAt 2 0) (.kiosk 0) 0 ana
    ∧ (let b := { ana with holdings := [9] }
       Passes (withBand site 0 b) (tapAt 2 0) (.kiosk 0) 0 b) := by
  refine ⟨⟨passes_of (by decide), canonical_site, ⟨⟨_, rfl, rfl, rfl, rfl⟩, Or.inr ?_⟩, by decide, by decide⟩,
    ⟨passes_of (by decide), by decide⟩, ⟨passes_of (by decide), ?_⟩, ⟨passes_of (by decide), by decide⟩,
    passes_of (by decide), passes_of (by decide), passes_of (by decide)⟩
  · intro m _
    have : site.rotors[(0 : Fin 16)] = 1023 := by decide
    rw [this]
    exact ⟨by omega, Fin.zero_le m⟩
  · rintro n ⟨l, h, _, hs, _⟩
    have e : (withLocker site 0 (box .locked none)).lockers = [(0, box .locked none)] := by decide
    unfold State.locker? at h
    rw [e] at h
    simp only [Table.get?] at h
    split at h
    · cases h; exact absurd hs (by decide)
    · exact absurd h (by simp)

/-- A tap at the outside reader that passes, with the band and the cabin it meets. -/
def atCabin (s : State) (r : Fin 8) (b : Band) (c : Cabin) : Prop :=
  Passes s (tapAt 1 r) (.cabin 0) 0 b ∧ TablesCanonical s ∧ s.cabin? 0 = some c

theorem atCabin_of {s : State} {r : Fin 8} {b : Band} {c : Cabin}
    (h : (passesB s (tapAt 1 r) (.cabin 0) 0 b && canonicalB s && (s.cabin? 0 == some c)) = true) : atCabin s r b c := by
  simp only [Bool.and_eq_true, beq_iff_eq] at h
  exact ⟨passes_of h.1.1, canonical_of h.1.2, h.2⟩

/-- ana with a cabin link. -/
def linked (r : CabinRole) : Band := { ana with cabinLink := some ⟨0, r⟩ }

/-- One state for each branch at the outside reader. -/
theorem witness_OutsideTapResult :
    atCabin (withCabin site 0 (room .disabled)) 0 ana (room .disabled)
    ∧ atCabin { site with classes := site.classes.set 0 ClassDesc.reset } 0 ana (room .free)
    ∧ atCabin (withBand (withCabin site 0 (room .called)) 0 (linked .called)) 0 (linked .called) (room .called)
    ∧ atCabin (withBand (withCabin site 0 (room .admitting)) 0 (linked .occupant)) 0 (linked .occupant) (room .admitting)
    ∧ atCabin (withBand (withCabin site 0 (room .occupied)) 0 (linked .occupant)) 0 (linked .occupant) (room .occupied)
    ∧ atCabin site 0 ana (room .free) ∧ atCabin (fullQueue site) 0 ana (room .free)
    ∧ atCabin queued 0 { ana with queueLink := some ⟨0, 4⟩ } (room .free)
    ∧ atCabin (withBand (withCabin site 0 (room .occupied)) 0 { ana with queueLink := some ⟨1, 4⟩ }) 0
        { ana with queueLink := some ⟨1, 4⟩ } (room .occupied)
    ∧ atCabin { withCabin site 0 (room .occupied) with
        classQueues := site.classQueues.set 0 (List.replicate 16 ⟨0x77, 1, 2⟩) } 0 ana (room .occupied)
    ∧ (atCabin (withCabin site 0 (room .occupied)) 0 ana (room .occupied)
      ∧ ∀ m, ¬Callable (withCabin site 0 (room .occupied)) 0 m)
    ∧ (let s := { withCabin site 0 (room .occupied) with cabins := [(0, room .occupied), (1, room .free)] }
       atCabin s 0 ana (room .occupied) ∧ Callable s 0 1) := by
  refine ⟨atCabin_of (by decide), atCabin_of (by decide), atCabin_of (by decide), atCabin_of (by decide),
    atCabin_of (by decide), atCabin_of (by decide), atCabin_of (by decide), atCabin_of (by decide),
    atCabin_of (by decide), atCabin_of (by decide), ⟨atCabin_of (by decide), ?_⟩,
    ⟨atCabin_of (by decide), _, rfl, rfl, rfl, rfl⟩⟩
  rintro m ⟨c, h, hs, _⟩
  have e : (withCabin site 0 (room .occupied)).cabins = [(0, room .occupied)] := by decide
  unfold State.cabin? at h
  rw [e] at h
  simp only [Table.get?] at h
  split at h
  · cases h; exact absurd hs (by decide)
  · exact absurd h (by simp)

/-- A cabin ana occupies. -/
def used (st : CabinState) : Cabin :=
  { room st with band := some 0x11, latched := { CabinParams.reset with maxExtensions := 2 } }

/-- One state for each row of the table at the inside reader. -/
theorem witness_InsideTapResult :
    atCabin (withCabin site 0 (used .admitting)) 1 ana (used .admitting) ∧ atCabin site 1 ana (room .free)
    ∧ atCabin (withCabin site 0 (room .occupied)) 1 ana (room .occupied)
    ∧ atCabin (withCabin site 0 (used .overtime)) 1 ana (used .overtime)
    ∧ atCabin (withCabin (staffed site) 0 (used .occupied)) 1 ana (used .occupied)
    ∧ atCabin (withCabin site 0 { used .occupied with extensions := 2 }) 1 ana { used .occupied with extensions := 2 }
    ∧ atCabin (withCabin site 0 (used .occupied)) 1 ana (used .occupied) := by
  exact ⟨atCabin_of (by decide), atCabin_of (by decide), atCabin_of (by decide), atCabin_of (by decide),
    atCabin_of (by decide), atCabin_of (by decide), atCabin_of (by decide)⟩

/-- One state for each branch at the exit: evacuation with and without a place, a moving locker, a LOCKED one under
STRICT_EXIT, no place, nothing due, and an amount due. -/
theorem witness_ExitTapResult :
    Passes (alarmed site) (tapAt 3 0) .exit 0 ana ∧ Passes (fullQueue (alarmed site)) (tapAt 3 0) .exit 0 ana
    ∧ (let b := { ana with holdings := [0] }
       Passes (withLocker (withBand site 0 b) 0 { box .locked (some 0x11) with action := some (move .retract .opening) })
         (tapAt 3 0) .exit 0 b
       ∧ Passes (withLocker (withBand site 0 b) 0 (box .locked (some 0x11))) (tapAt 3 0) .exit 0 b)
    ∧ Passes (fullQueue site) (tapAt 3 0) .exit 0 ana ∧ (Passes site (tapAt 3 0) .exit 0 ana ∧ (site.tallyOf ana).due = 0)
    ∧ (let b := { ana with credit := 0, state := .barred }
       Passes (withBand site 0 b) (tapAt 3 0) .exit 0 b ∧ (site.tallyOf b).due = 50) := by
  exact ⟨passes_of (by decide), passes_of (by decide), ⟨passes_of (by decide), passes_of (by decide)⟩,
    passes_of (by decide), ⟨passes_of (by decide), by decide⟩, passes_of (by decide), by decide⟩

theorem witness_ChargeComputed : 1 ≤ ((site.tariffs[ana.tariffSet])[ana.cls]).step ∧ ana.frozen = none
    ∧ ({ ana with frozen := some ⟨5, 10⟩ } : Band).frozen = some ⟨5, 10⟩ := by
  decide

/-! ## Hypotheses met: doors, bolts, heads -/

theorem witness_DoorReportsResult : Reports site 0 0 (.lock 8) ∧ Reports site 0 1 (.cabin 0)
    ∧ site.locker? (lockerAt 0 0 7) = none ∧ site.locker? (lockerAt 0 0 0) = some (box .vacant none)
    ∧ site.cabin? 0 = some (room .free)
    ∧ (let s := withLocker site 0 { box .locked (some 0x11) with action := some (move .throw .claim) }
       Reports s 0 0 (.lock 8) ∧ (s.locker? 0).any (fun l => l.action.isSome) = true)
    ∧ (let s := withLocker site 0 { box .released (some 0x11) with door := .opened }
       Reports s 0 0 (.lock 8) ∧ (s.zones[(0 : Fin 16)]).autoRelock = true ∧ s.queue.sum < 128)
    ∧ (let s := withCabin site 0 { used .occupied with door := .opened }
       Reports s 0 1 (.cabin 0) ∧ (s.cabin? 0).any (fun c => c.phase == .outside) = true) := by
  exact ⟨reports_of (by decide), reports_of (by decide), by decide, by decide, by decide,
    ⟨reports_of (by decide), by decide⟩, ⟨reports_of (by decide), by decide, by decide⟩, reports_of (by decide), by decide⟩

theorem witness_BoltResults :
    (let s := withLocker site 0 { box .vacant (some 0x11) with action := some (move .throw .claim) }
     Reports s 0 0 (.lock 8) ∧ s.action? (.locker 0) = some (move .throw .claim)
       ∧ (∃ k, Enrolment.lock 8 = .lock k ∧ DoorId.locker 0 = .locker (lockerAt 0 0 0)))
    ∧ site.action? (.locker 0) = none ∧ (move .throw .claim).direction ≠ .retract
    ∧ (let s := withCabin site 0 { used .admitting with action := some (move .retract .admission) }
       Reports s 0 1 (.cabin 0) ∧ s.action? (.cabin 0) = some (move .retract .admission))
    ∧ site.locker? 0 = some (box .vacant none) ∧ site.cabin? 0 = some (room .free) := by
  exact ⟨⟨reports_of (by decide), by decide, 8, rfl, by decide⟩, by decide, by decide, ⟨reports_of (by decide), by decide⟩,
    by decide, by decide⟩

theorem witness_LockerActionEnds :
    (let l := { box .vacant (some 0x11) with action := some (move .throw .claim) }
     (withLocker site 0 l).locker? 0 = some l ∧ (move .throw .claim).slot = true ∧ 0 < (withLocker site 0 l).queue.reserved)
    ∧ Present site 0x11 0 ana ∧ (move .throw .claim).orphaned = false
    ∧ ({ move .retract .opening with orphaned := true } : Action).orphaned = true
    ∧ (move .retract .staffOpen).purpose = .staffOpen ∧ (move .throw .relock).purpose = .relock := by
  exact ⟨by decide, present_ana, by decide, by decide, by decide, by decide⟩

theorem witness_CabinActionEnds : TablesCanonical site
    ∧ (let c := { used .admitting with action := some (move .retract .admission) }
       (withCabin site 0 c).cabin? 0 = some c ∧ (move .retract .admission).purpose = .admission ∧ 0 < site.queue.reserved)
    ∧ (let c := { used .vacating with action := some (move .throw .reset) }
       (withCabin site 0 c).cabin? 0 = some c ∧ c.state = .vacating ∧ site.clock.evacuation = false)
    ∧ (let c := { room .evacuated with action := some (move .throw .reset) }
       (withCabin (alarmed site) 0 c).cabin? 0 = some c ∧ c.state = .evacuated ∧ (alarmed site).clock.evacuation = true)
    ∧ (let c := { used .occupied with action := some (move .throw .secure) }
       (withCabin site 0 c).cabin? 0 = some c ∧ (move .throw .secure).purpose = .secure) := by
  exact ⟨canonical_site, by decide, by decide, by decide, by decide⟩

theorem witness_StatusResult :
    (alive site 0 ∧ ∀ h, (headIn 0 (.lock 8) .silent).head? 0 0 = some h → h.state = .silent)
    ∧ Reports site 0 0 (.lock 8) ∧ Reports site 0 1 (.cabin 0) ∧ Reports site 0 2 (.kiosk 0) ∧ Reports site 0 3 .exit
    ∧ (HeadType.lock = (Enrolment.lock 8).type ∧ 8 = (Enrolment.lock 8).doorCount ∧ HeadType.lock ≠ Enrolment.exit.type)
    ∧ ((withLocker site 0 (box .verify (some 0x11))).locker? 0 = some (box .verify (some 0x11))
      ∧ (withLocker site 0 (box .verify none)).locker? 0 = some (box .verify none)
      ∧ site.locker? 0 = some (box .vacant none) ∧ (box .vacant none).state ≠ .verify)
    ∧ (let c := { room .disabled with statusWait := .reopen }
       (withCabin site 0 c).cabin? 0 = some c ∧ c.statusWait = .reopen)
    ∧ (let c := { room .vacating with statusWait := .reset }
       (withCabin site 0 c).cabin? 0 = some c ∧ c.statusWait = .reset ∧ c.action = none ∧ c.door ≠ .opened) := by
  refine ⟨⟨by unfold alive; decide, ?_⟩, reports_of (by decide), reports_of (by decide), reports_of (by decide),
    reports_of (by decide), by decide, by decide, by decide, by decide⟩
  intro h e
  have : (headIn 0 (.lock 8) .silent).head? 0 0 = some { online (.lock 8) with state := .silent } := by decide
  rw [this] at e
  cases e
  rfl

theorem witness_DeadlinesResult : TablesCanonical site
    ∧ (let l := { box .reserved (some 0x11) with reserveDeadline := some 60000 }
       let s := withLocker site 0 l
       s.locker? 0 = some l ∧ l.action = none ∧ Present s 0x11 0 ana ∧ 0 < s.queue.reserved)
    ∧ (∀ l, site.locker? 0 = some l → l.reserveDeadline = none) ∧ site.cabin? 9 = none
    ∧ (let c := { used .occupied with entryDeadline := some 60000, warningAt := some 540000, expiryAt := some 600000 }
       (withCabin site 0 c).cabin? 0 = some c ∧ c.phase = .outside)
    ∧ (let c := { used .called with callDeadline := some 60000 }
       (withCabin site 0 c).cabin? 0 = some c ∧ site.clock.evacuation = false)
    ∧ (room .free).entryDeadline = none ∧ (room .free).warningAt = none ∧ (room .free).expiryAt = none
    ∧ (room .free).callDeadline = none
    ∧ (let c := { room .occupied with remaining := 61 }
       c.latched.warning < c.remainingAt 0 ∧ c.pattern 0 ≠ c.lamp
         ∧ { c with remaining := 60 }.remainingAt 0 ≤ { c with remaining := 60 }.latched.warning)
    ∧ ((room .free).pattern site.now = (room .free).lamp ∧ (room .free).overtimeSince = none)
    ∧ (({ room .occupied with expiryAt := some 60000 } : Cabin).expiryAt = some 60000
      ∧ ({ room .overtime with overtimeSince := some 7 } : Cabin).overtimeSince = some 7) := by
  refine ⟨canonical_site, ⟨by decide, rfl, present_of (by decide), by decide⟩, ?_, by decide, by decide, by decide, by decide,
    by decide, by decide, by decide, by decide, by decide, by decide⟩
  intro l e
  have : site.locker? 0 = some (box .vacant none) := by decide
  rw [this] at e
  cases e
  rfl

end Sys2Proof.Tests
end

/-! ## What every step keeps: the tables and the Visit Table -/

namespace Sys2Proof.Machine

/-! ### Operations that leave a part of the state -/

/-- A conversion writes the Record Queue alone (R142). -/
theorem State.convert_only (s : State) (b : RecordBody) : ∃ q, s.convert b = { s with queue := q } := by
  unfold State.convert
  split
  · exact ⟨_, rfl⟩
  · exact ⟨s.queue, rfl⟩

/-- A change of a head's entry writes the spurs alone. -/
theorem State.modHead_only (s : State) (sp : Fin 4) (a : Fin 32) (f : Head → Head) :
    ∃ v, s.modHead sp a f = { s with spurs := v } := by
  unfold State.modHead
  split
  · exact ⟨_, rfl⟩
  · exact ⟨s.spurs, rfl⟩

/-! ### A property of the clock and the Visit Table -/

/-- A property of the clock and the Visit Table is kept by every primitive change of an operation that is no owner's, if
a change of a listed record that leaves its serial keeps it, and the dropping of a slot. -/
theorem keptCore_of_visit {Q : SiteClock → List (Nat × Band) → Prop}
    (hmod : ∀ {c v slot b b'}, b'.serial = b.serial → Table.get? slot v = some b → Q c v → Q c (Table.put slot b' v))
    (hdrop : ∀ {c v slot}, Q c v → Q c (Table.drop slot v)) : KeptCore (fun s => Q s.clock s.visit) where
  time h := h
  alerts h := h
  watches h := h
  write e h := by obtain ⟨-, rfl⟩ := State.write?_eq_some.mp e; exact h
  reserve e h := by obtain ⟨-, rfl⟩ := State.reserve?_eq_some.mp e; exact h
  writeReserve e h := by obtain ⟨-, rfl⟩ := State.writeReserve?_eq_some.mp e; exact h
  convert {s b} h := by obtain ⟨q, e⟩ := s.convert_only b; rw [e]; exact h
  release h := h
  putLocker h := h
  putCabin h := h
  rotors h := h
  classQueues h := h
  tickets h := h
  modBand {s slot f} hf h := by
    cases hb : s.band? slot with
    | none => simpa only [State.modBand, hb] using h
    | some b => rw [State.modBand_of s hb]; exact hmod (hf b) hb h
  dropBand h := hdrop h
  modHead {s sp a f} _ h := by obtain ⟨v, e⟩ := s.modHead_only sp a f; rw [e]; exact h
  port _ h := h
  transmit h := h

/-! ### The canonical form (R1, R49, R99, R161) -/

/-- The heads of every spur are listed in the canonical form. -/
def HeadsCanonical (s : State) : Prop := ∀ sp : Fin 4, Table.wf (s.spur sp).heads = true

/-- A spur port whose heads are in the form keeps the heads of every spur in it. -/
theorem HeadsCanonical.putSpur {s : State} {sp : Fin 4} {p : Spur} (hp : Table.wf p.heads = true) (h : HeadsCanonical s) :
    HeadsCanonical (s.putSpur sp p) := by
  intro q
  by_cases hq : q = sp
  · subst hq; simpa using hp
  · rw [State.spur_putSpur_ne s hq]; exact h q

theorem HeadsCanonical.putHead {s : State} {sp : Fin 4} {a : Fin 32} {x : Head} (h : HeadsCanonical s) :
    HeadsCanonical (s.putHead sp a x) := h.putSpur (Table.wf_put _ _ (h sp))

theorem HeadsCanonical.modHead {s : State} {sp : Fin 4} {a : Fin 32} {f : Head → Head} (h : HeadsCanonical s) :
    HeadsCanonical (s.modHead sp a f) := by
  unfold State.modHead
  split
  · exact h.putHead
  · exact h

/-- After a cold reset no head is enrolled. -/
theorem headsCanonical_reset : HeadsCanonical State.reset := by unfold HeadsCanonical; decide

theorem TablesCanonical.modBand {s : State} {slot : Nat} {f : Band → Band} (h : TablesCanonical s) :
    TablesCanonical (s.modBand slot f) := by
  obtain ⟨hv, rest⟩ := h
  unfold State.modBand
  split
  · exact ⟨Table.wf_put _ _ hv, rest⟩
  · exact ⟨hv, rest⟩

/-- Each primitive change the model makes keeps the tables in their canonical form. -/
theorem kept_tablesCanonical : Kept TablesCanonical where
  time h := h
  alerts h := h
  watches h := h
  write e h := by obtain ⟨-, rfl⟩ := State.write?_eq_some.mp e; exact h
  reserve e h := by obtain ⟨-, rfl⟩ := State.reserve?_eq_some.mp e; exact h
  writeReserve e h := by obtain ⟨-, rfl⟩ := State.writeReserve?_eq_some.mp e; exact h
  convert {s b} h := by obtain ⟨q, e⟩ := s.convert_only b; rw [e]; exact h
  release h := h
  putLocker h := by obtain ⟨hv, hl, rest⟩ := h; exact ⟨hv, Table.wf_put _ _ hl, rest⟩
  putCabin h := by obtain ⟨hv, hl, hc, hh⟩ := h; exact ⟨hv, hl, Table.wf_put _ _ hc, hh⟩
  rotors h := h
  classQueues h := h
  tickets h := h
  modBand _ h := h.modBand
  dropBand h := by obtain ⟨hv, rest⟩ := h; exact ⟨Table.wf_drop _ hv, rest⟩
  modHead {s sp a f} _ h := by
    obtain ⟨hv, hl, hc, hh⟩ := h
    have hh' : HeadsCanonical (s.modHead sp a f) := HeadsCanonical.modHead hh
    obtain ⟨v, e⟩ := s.modHead_only sp a f
    rw [e] at hh' ⊢
    exact ⟨hv, hl, hc, hh'⟩
  port {s sp p} e h := by
    obtain ⟨hv, hl, hc, hh⟩ := h
    exact ⟨hv, hl, hc, HeadsCanonical.putSpur (by rw [e]; exact hh sp) hh⟩
  transmit h := h
  paused h := h
  dropLocker h := by obtain ⟨hv, hl, rest⟩ := h; exact ⟨hv, Table.wf_drop _ hl, rest⟩
  dropCabin h := by obtain ⟨hv, hl, hc, hh⟩ := h; exact ⟨hv, hl, Table.wf_drop _ hc, hh⟩
  zones h := h
  cabinClasses h := h
  classes h := h
  tariffs h := h
  schedule h := h
  control h := h
  lines h := h
  issue _ _ _ _ h := by obtain ⟨hv, rest⟩ := h; exact ⟨Table.wf_put _ _ hv, rest⟩
  rename _ _ _ h := by
    obtain ⟨hv, hl, hc, hh⟩ := h.modBand
    exact ⟨hv, Table.wf_map _ hl, Table.wf_map _ hc, hh⟩
  evacuation h := h
  timeSet h := h
  openDay _ _ h := h
  beginClosing _ h := h
  makeHead h := by obtain ⟨hv, hl, hc, hh⟩ := h; exact ⟨hv, hl, hc, HeadsCanonical.putHead hh⟩
  dropHead {s sp a} h := by
    obtain ⟨hv, hl, hc, hh⟩ := h
    exact ⟨hv, hl, hc, HeadsCanonical.putSpur (Table.wf_drop _ (hh sp)) hh⟩
  restartPort {s sp n} h := by
    obtain ⟨hv, hl, hc, hh⟩ := h
    exact ⟨hv, hl, hc, HeadsCanonical.putSpur (Table.wf_map _ (hh sp)) hh⟩
  assembly h := h
  reset _ := ⟨rfl, rfl, rfl, headsCanonical_reset⟩
  dropRecord h := h
  minute h := h
  walkWaits _ h := h
  walkWakes _ h := h
  walkPast _ _ _ _ h := h
  closeDay _ _ h := h
  joinReply _ h := h
  dropReply h := h
  count h := h
  pop h := h

/-! ### The Visit Table (R1, R187 to R190) -/

/-- The Visit Table is consistent with a clock (R1, R189): `VisitConsistent` as a property of the two alone. -/
def VisitOf (c : SiteClock) (v : List (Nat × Band)) : Prop :=
  Table.wf v = true ∧ (∀ e ∈ v, e.1 < Config.bandSlots ∧ validSerial e.2.serial = true)
    ∧ serialsDistinct v ∧ (c.day = .closed → v = []) ∧ (c.day = .closing → ∀ e ∈ v, c.cursor ≤ e.1)
    ∧ (c.walk = .idle ↔ c.day ≠ .closing) ∧ (c.day ≠ .closed → c.minuteOfDay.isSome = true)

theorem visitConsistent_iff (s : State) : VisitConsistent s ↔ VisitOf s.clock s.visit := Iff.rfl

/-- A write at a listed key lists no other key. -/
theorem Table.key_of_mem_put {α : Type} {k : Nat} {x y : α} {v : List (Nat × α)} {e : Nat × α} (hx : (k, x) ∈ v)
    (he : e ∈ Table.put k y v) : ∃ f ∈ v, f.1 = e.1 := by
  rcases Table.mem_put he with rfl | he
  · exact ⟨_, hx, rfl⟩
  · exact ⟨e, he, rfl⟩

/-- Without the change of a serial a written record keeps the serials distinct. -/
theorem serialsDistinct.put {v : List (Nat × Band)} {slot : Nat} {b b' : Band} (hs : b'.serial = b.serial)
    (hb : (slot, b) ∈ v) (h : serialsDistinct v) : serialsDistinct (Table.put slot b' v) := by
  intro e he f hf hef
  rcases Table.mem_put he with rfl | he <;> rcases Table.mem_put hf with rfl | hf
  · rfl
  · exact h _ hb f hf (hs.symm.trans hef)
  · exact h e he (slot, b) hb (hef.trans hs)
  · exact h e he f hf hef

/-- A record whose serial no band carries keeps the serials distinct. -/
theorem serialsDistinct.putNew {v : List (Nat × Band)} {slot : Nat} {b' : Band}
    (hn : ∀ e ∈ v, e.2.serial ≠ b'.serial) (h : serialsDistinct v) : serialsDistinct (Table.put slot b' v) := by
  intro e he f hf hef
  rcases Table.mem_put he with rfl | he <;> rcases Table.mem_put hf with rfl | hf
  · rfl
  · exact absurd hef.symm (hn f hf)
  · exact absurd hef (hn e he)
  · exact h e he f hf hef

/-- A change of a listed record that leaves its serial keeps the table consistent. -/
theorem VisitOf.put {c : SiteClock} {v : List (Nat × Band)} {slot : Nat} {b b' : Band} (hs : b'.serial = b.serial)
    (hb : Table.get? slot v = some b) (h : VisitOf c v) : VisitOf c (Table.put slot b' v) := by
  obtain ⟨hw, hv, hd, hclosed, hcur, hday⟩ := h
  have hm := Table.mem_of_get? hb
  refine ⟨Table.wf_put _ _ hw, fun e he => ?_, hd.put hs hm, fun hc => ?_, fun hc e he => ?_, hday⟩
  · rcases Table.mem_put he with rfl | he
    · exact ⟨(hv _ hm).1, hs ▸ (hv _ hm).2⟩
    · exact hv e he
  · simp [hclosed hc] at hm
  · obtain ⟨f, hf, hfe⟩ := Table.key_of_mem_put hm he
    exact hfe ▸ hcur hc f hf

/-- A dropped slot keeps the table consistent. -/
theorem VisitOf.drop {c : SiteClock} {v : List (Nat × Band)} {slot : Nat} (h : VisitOf c v) :
    VisitOf c (Table.drop slot v) := by
  obtain ⟨hw, hv, hd, hclosed, hcur, hday⟩ := h
  exact ⟨Table.wf_drop _ hw, fun e he => hv e (Table.mem_drop he),
    fun e he f hf => hd e (Table.mem_drop he) f (Table.mem_drop hf), fun hc => by simp [hclosed hc, Table.drop],
    fun hc e he => hcur hc e (Table.mem_drop he), hday⟩

/-- With no band of a serial, no entry carries it. -/
theorem findBand_isSome_eq_false {s : State} {x : Serial} :
    (s.findBand x).isSome = false ↔ ∀ e ∈ s.visit, e.2.serial ≠ x := by
  simp [State.findBand]

/-- A band found is listed in its slot, and carries the serial. -/
theorem mem_of_findBand {s : State} {x : Serial} {slot : Nat} {b : Band} (h : s.findBand x = some (slot, b)) :
    (slot, b) ∈ s.visit ∧ b.serial = x :=
  ⟨List.mem_of_find?_eq_some h, by simpa using List.find?_some h⟩

/-- A band issued to an open day, in the lowest free slot (R1, R3). -/
theorem VisitConsistent.issue {s : State} {b : Band} (ho : s.clock.day = .opened)
    (hn : (s.findBand b.serial).isSome = false) (hs : validSerial b.serial = true)
    (hl : s.visit.length < Config.bandSlots) (h : VisitConsistent s) : VisitConsistent (s.putBand s.freeSlot b) := by
  obtain ⟨hw, hv, hd, -, -, hday⟩ := h
  refine ⟨Table.wf_put _ _ hw, fun e he => ?_, hd.putNew (findBand_isSome_eq_false.mp hn), fun hc => ?_, fun hc => ?_, hday⟩
  · rcases Table.mem_put he with rfl | he
    · have := Table.firstFree_le 0 s.visit
      exact ⟨by simp only [State.freeSlot]; omega, hs⟩
    · exact hv e he
  · simp [ho] at hc
  · simp [ho] at hc

/-- A band's serial replaced by one no band carries (R18). -/
theorem VisitConsistent.rename {s : State} {slot : Nat} {b : Band} {old new : Serial}
    (hb : s.findBand old = some (slot, b)) (hn : (s.findBand new).isSome = false) (hs : validSerial new = true)
    (h : VisitConsistent s) : VisitConsistent (s.rename slot old new) := by
  obtain ⟨hw, hv, hd, hclosed, hcur, hday⟩ := h
  obtain ⟨hm, -⟩ := mem_of_findBand hb
  have hr : (s.rename slot old new).visit = Table.put slot { b with serial := new } s.visit := by
    simp [State.rename, State.modBand_of s (Table.get?_of_mem hw hm)]
  have hc : (s.rename slot old new).clock = s.clock := by
    simp [State.rename, State.modBand_of s (Table.get?_of_mem hw hm)]
  rw [visitConsistent_iff, hr, hc]
  refine ⟨Table.wf_put _ _ hw, fun e he => ?_, hd.putNew (findBand_isSome_eq_false.mp hn), fun hc => ?_,
    fun hc e he => ?_, hday⟩
  · rcases Table.mem_put he with rfl | he
    · exact ⟨(hv _ hm).1, hs⟩
    · exact hv e he
  · simp [hclosed hc] at hm
  · obtain ⟨f, hf, hfe⟩ := Table.key_of_mem_put hm he
    exact hfe ▸ hcur hc f hf

/-- A table in the form whose keys are no lower than a bound. -/
def VisitFrom (lo : Nat) (v : List (Nat × Band)) : Prop := Table.wf v = true ∧ ∀ e ∈ v, lo ≤ e.1

/-- Every operation that is no owner's keeps the keys no lower than a bound. -/
theorem keptCore_visitFrom (lo : Nat) : KeptCore (fun s => VisitFrom lo s.visit) :=
  keptCore_of_visit (Q := fun _ v => VisitFrom lo v)
    (fun _ hb ⟨hw, hl⟩ => ⟨Table.wf_put _ _ hw, fun e he => by
      obtain ⟨f, hf, hfe⟩ := Table.key_of_mem_put (Table.mem_of_get? hb) he
      exact hfe ▸ hl f hf⟩)
    (fun ⟨hw, hl⟩ => ⟨Table.wf_drop _ hw, fun e he => hl e (Table.mem_drop he)⟩)

/-- The removal of the lowest band leaves none at or below its slot. -/
theorem visitFrom_remove {s : State} {slot : Nat} {b : Band} (hb : s.band? slot = some b) (h : VisitFrom slot s.visit) :
    VisitFrom (slot + 1) (s.remove slot).visit := by
  obtain ⟨hw, hl⟩ := (keptCore_visitFrom slot).settled (slot := slot) (b := b) h
  rw [State.remove, hb]
  refine ⟨Table.wf_drop _ hw, fun e he => ?_⟩
  have hne : e.1 ≠ slot := by
    rintro rfl
    have := Table.get?_of_mem (Table.wf_drop _ hw) he
    simp [Table.get?_drop_self hw] at this
  have := hl e (Table.mem_drop he)
  omega

/-- A walk that has a step due is the walk of a closing day (R188). -/
theorem closing_of_due {c : SiteClock} (hwalk : c.walk = .idle ↔ c.day ≠ .closing) (hd : c.walk = .due) :
    c.day = .closing :=
  Decidable.byContradiction fun hne => nomatch hd.symm.trans (hwalk.mpr hne)

/-- The walk goes past a band it has removed (R189). -/
theorem VisitConsistent.walkPast {s s1 : State} {slot : Nat} {b : Band} {r : RecordBody}
    (hd : s.clock.walk = .due) (hf : Table.firstFrom s.clock.cursor s.visit = some (slot, b))
    (hw : s.write? r = some s1) (h : VisitConsistent s) (h1 : VisitConsistent (s1.remove slot)) :
    VisitConsistent ((s1.remove slot).walkPast slot) := by
  obtain ⟨hwf, -, -, -, hcur, hwalk, -⟩ := h
  obtain ⟨-, rfl⟩ := State.write?_eq_some.mp hw
  have hclosing := closing_of_due hwalk hd
  have hfrom : VisitFrom slot s.visit :=
    ⟨hwf, fun e he => Table.firstFrom_least (e := (slot, b)) hwf hf he (hcur hclosing e he)⟩
  have hb : Table.get? slot s.visit = some b := Table.get?_of_mem hwf (Table.firstFrom_mem hf).1
  obtain ⟨-, hpast⟩ := visitFrom_remove (s := { s with queue := { s.queue with records := s.queue.records ++ [s.stamp r] } }) hb hfrom
  obtain ⟨hw1, hv1, hd1, hclosed1, -, hday1⟩ := h1
  exact ⟨hw1, hv1, hd1, hclosed1, fun _ e he => hpast e he, hday1⟩

/-- The day closes with no band at or above the cursor, so with none at all (R190). -/
theorem VisitConsistent.closeDay {s : State} (hd : s.clock.walk = .due)
    (hf : Table.firstFrom s.clock.cursor s.visit = none) (h : VisitConsistent s) :
    VisitConsistent { s with clock := { s.clock with day := .closed, cursor := 0, walk := .idle } } := by
  obtain ⟨hw, hv, hdist, -, hcur, hwalk, -⟩ := h
  have hclosing := closing_of_due hwalk hd
  have hempty : s.visit = [] := List.eq_nil_iff_forall_not_mem.mpr fun e he => by
    have := Table.firstFrom_none hf he
    have := hcur hclosing e he
    omega
  exact ⟨hw, hv, hdist, fun _ => hempty, by simp, by simp, by simp⟩

/-- Each primitive change the model makes keeps the Visit Table consistent. -/
theorem kept_visitConsistent : Kept VisitConsistent where
  toKeptCore := keptCore_of_visit (Q := VisitOf) VisitOf.put VisitOf.drop
  paused h := h
  dropLocker h := h
  dropCabin h := h
  zones h := h
  cabinClasses h := h
  classes h := h
  tariffs h := h
  schedule h := h
  control h := h
  lines h := h
  issue := VisitConsistent.issue
  rename := VisitConsistent.rename
  evacuation h := h
  timeSet h := by
    obtain ⟨hw, hv, hd, hclosed, hcur, hwalk, -⟩ := h
    exact ⟨hw, hv, hd, hclosed, hcur, hwalk, fun _ => rfl⟩
  openDay hd hm h := by
    obtain ⟨hw, hv, hdist, -, -, hwalk, -⟩ := h
    exact ⟨hw, hv, hdist, by simp, by simp, by simpa [hd] using hwalk, fun _ => by simp [hm]⟩
  beginClosing hd h := by
    obtain ⟨hw, hv, hdist, -, -, -, hm⟩ := h
    exact ⟨hw, hv, hdist, by simp, by simp, by simp, fun _ => hm (by simp [hd])⟩
  makeHead h := h
  dropHead h := h
  restartPort h := h
  assembly h := h
  reset _ := ⟨rfl, by simp [State.coldReset, State.reset], by simp [State.coldReset, State.reset, serialsDistinct],
    fun _ => rfl, by simp [State.coldReset, SiteClock.reset],
    by simp [DayConsistent, State.coldReset, SiteClock.reset]⟩
  dropRecord h := h
  minute h := by
    obtain ⟨hw, hv, hd, hclosed, hcur, hwalk, hm⟩ := h
    exact ⟨hw, hv, hd, hclosed, hcur, hwalk, fun hc => by simpa [SiteClock.advance] using hm hc⟩
  walkWaits hd h := by
    obtain ⟨hw, hv, hdist, hclosed, hcur, hwalk, hm⟩ := h
    exact ⟨hw, hv, hdist, hclosed, hcur, by simpa [hd] using hwalk, hm⟩
  walkWakes hd h := by
    obtain ⟨hw, hv, hdist, hclosed, hcur, hwalk, hm⟩ := h
    exact ⟨hw, hv, hdist, hclosed, hcur, by simpa [hd] using hwalk, hm⟩
  walkPast := VisitConsistent.walkPast
  closeDay := VisitConsistent.closeDay
  joinReply _ h := h
  dropReply h := h
  count h := h
  pop h := h

end Sys2Proof.Machine

namespace Sys2Proof.Proofs
open Sys2Proof Sys2Proof.Machine Sys2Proof.Claims

/-- Settles O8: each primitive change keeps the canonical form, so every step does. -/
theorem stepKeepsTables : Obligations.StepKeepsTables := fun _ _ h e => kept_tablesCanonical.step h e

/-- Settles O9: each primitive change keeps the Visit Table, the walk and the day consistent, so every step does. -/
theorem stepKeepsVisit : Obligations.StepKeepsVisit := fun _ _ h e => kept_visitConsistent.step h e

end Sys2Proof.Proofs

/-! ## A command sent to the station, and what answers it -/

namespace Sys2Proof

/-- The body that carries a command reads as that command (R175, R182). -/
theorem readBody_body {c : Command} (h : c.spelled) : readBody c.kind c.body = some c := by
  cases c with
  | bandIssue x k g m =>
    cases g with
    | none => obtain rfl : m = none := h rfl; simp [readBody, Command.kind, Command.body, readBandIssue, bytes32]
    | some g => cases m <;> simp [readBody, Command.kind, Command.body, readBandIssue, bytes32, bytes16]
  | scheduleLoad ps =>
    have hl : 3 * ps.length ≤ 60 := by have : ps.length ≤ 20 := h; omega
    simp only [readBody, Command.kind, Command.body, readScheduleLoad, laid_length, hl, if_true, readPeriods_laid,
      Option.map_some]
  | lockerSet => exact (if_pos h).trans (by rw [word16_bytes, word16_bytes])
  | cabinSet => exact if_pos h
  | pollPlan => exact if_pos h
  | _ =>
    simp [readBody, Command.kind, Command.body, bytes32, bytes16, flagByte, num8, readEmpty, readBandCredit, readBandBar,
      readBandVoid, readBandReplace, readBandQuery, readClassLoad, readTariffLoad, readControlLoad, readZoneLoad,
      readLockerQuery, readCabinClassLoad, readCabinQuery, readQueueQuery, readHeadEnrol, readHeadRemove, readRestart,
      readWatchSet, readWatchClear, readAlertPeek, readAlertClear, readTimeSet, readLinesLoad]

/-- The body that carries a command fits a frame (R173, R182). -/
theorem body_length_le {c : Command} (h : c.spelled) : c.body.length ≤ 60 := by
  cases c with
  | bandIssue x k g m => cases g <;> cases m <;> simp [Command.body, bytes32, bytes16]
  | scheduleLoad ps =>
    have : ps.length ≤ 20 := h
    simp only [Command.body, laid_length]
    omega
  | pollPlan sp r fast =>
    have : fast.length ≤ 58 := h
    simp only [Command.body, List.length_cons]
    omega
  | _ => simp [Command.body, bytes32, bytes16, flagByte, num8]

end Sys2Proof

namespace Sys2Proof.Machine
open Sys2Proof.Claims


/-! ### The answer of a taken frame -/

/-- A row that stands for a frame takes it as one event. -/
theorem exec_framed {i : Instr} {kind : Byte} {f : Frame} (h : i.framed? = some (kind, f)) (s : State) :
    exec i s = frameEvent kind f s := by
  cases i <;> cases h <;> rfl

/-- A frame right in form that this station takes is answered by its owner's handling (R176). -/
theorem exec_taken {i : Instr} {k : FrameKind} {f : Frame} {c : Command} {s : State}
    (hi : i.framed? = some (k.code, f)) (hs : Ready s) (hf : f.station = BitVec.ofNat 8 s.trunk.station.val)
    (hl : f.body.length ≤ 60) (hc : readBody k f.body = some c) :
    exec i s = .next (match owner c (framed s) with
      | .accepted t d => replied t k.code (.accepted d)
      | .refused e => replied (framed s) k.code (.refused e)).arbitrate := by
  obtain ⟨hstation, hplace⟩ := hs
  obtain ⟨ht, hb⟩ := State.takes_own (s := framed s) hstation hplace hf hl
  have htake : State.takeFrame owner k.code f (counted s) = (framed s).answerFrame k.code f (owner c (framed s)) := by
    rw [State.takeFrame_owned (s := counted s) ht hc, hb, Bool.and_false]
    rfl
  calc exec i s = .next (State.takeFrame owner k.code f (counted s)).arbitrate := exec_framed hi s
    _ = _ := by rw [htake]; unfold State.answerFrame; rw [hb]; cases owner c (framed s) <;> rfl

/-- The row carries the frames of a command's kind. -/
def Carries (row : Frame → Instr) (c : Command) : Prop := ∀ f, (row f).framed? = some (c.kind.code, f)

variable {row : Frame → Instr} {c : Command} {s t : State}

/-- What the owner accepts is answered ACCEPTED. -/
theorem answers_of_owner {d : ReplyData} (hr : Ready s) (hw : Carries row c) (hc : c.spelled)
    (ho : owner c (framed s) = .accepted t d) : Answers row c s t d := by
  rw [Answers, exec_taken (hw _) hr rfl (body_length_le hc) (readBody_body hc), ho]

/-- What the owner refuses is answered REFUSED. -/
theorem refuses_of_owner {e : RefusalCode} (hr : Ready s) (hw : Carries row c) (hc : c.spelled)
    (ho : owner c (framed s) = .refused e) : Refuses row c s e := by
  rw [Refuses, exec_taken (hw _) hr rfl (body_length_le hc) (readBody_body hc), ho]

end Sys2Proof.Machine

/-! ## The band commands (01) -/

namespace Sys2Proof.Machine
open Sys2Proof.Claims

/-! ### Numbers, serials and present bands -/

theorem below_of_lt {n m : Nat} (h : m < n) : below n m = some ⟨m, h⟩ := by simp [below, h]

theorem below_of_le {n m : Nat} (h : n ≤ m) : below n m = none := by simp [below, h]

theorem validSerial_eq_false_iff {x : Serial} : validSerial x = false ↔ badSerial x := by
  simp only [validSerial, badSerial, Bool.and_eq_false_iff, bne_eq_false_iff_eq]

theorem validSerial_of_not_bad {x : Serial} (h : ¬badSerial x) : validSerial x = true := by
  rw [← Bool.not_eq_false, validSerial_eq_false_iff]
  exact h

theorem findBand_isSome_iff {s : State} {x : Serial} :
    (s.findBand x).isSome = true ↔ ∃ e ∈ s.visit, e.2.serial = x := by
  simp [State.findBand]

/-- A present band's record stands in its slot. -/
theorem band?_of_present {s : State} {x : Serial} {slot : Nat} {b : Band} (h : Present s x slot b) :
    s.band? slot = some b := by
  obtain ⟨hw, hf⟩ := h
  exact Table.get?_of_mem hw (mem_of_findBand hf).1

/-! ### BAND_ISSUE (R3) -/

section Issue
variable {s : State} {x : Serial} {k : Byte} {g m : Option (BitVec 16)}

/-- The checks of the operands come first. -/
theorem bandIssue_range (h : badSerial x ∨ 15 < k.toNat ∨ 1023 < (g.getD 0).toNat) :
    s.bandIssue x k g m = .refused .range := by
  unfold State.bandIssue
  rcases h with h | h | h
  · rw [validSerial_eq_false_iff.mpr h]
  · rw [below_of_le (by omega)]
    cases validSerial x <;> rfl
  · cases validSerial x with
    | false => rfl
    | true => cases below 16 k.toNat with
      | none => rfl
      | some => exact if_pos h

/-- With the operands in range, the remaining checks in their order, then the record. -/
theorem bandIssue_of_range (hx : ¬badSerial x) (hk : k.toNat < 16) (hg : (g.getD 0).toNat ≤ 1023) :
    s.bandIssue x k g m =
      if s.clock.day ≠ .opened then .refused .state
      else if (s.findBand x).isSome then .refused .inUse
      else if 4096 ≤ s.visit.length then .refused .full
      else .accepted (s.putBand s.freeSlot (s.issuedBand x ⟨k.toNat, hk⟩ (g.getD 0).toNat (m.getD 0).toNat))
        (.issued s.freeSlot s.clock.siteMinute s.issueSet) := by
  unfold State.bandIssue
  rw [validSerial_of_not_bad hx, below_of_lt hk]
  dsimp only
  rw [if_neg (by omega)]
  rfl

end Issue

/-- The set latched with the minute of day set (R127). -/
theorem issueSet_of_minute {s : State} {m : Nat} (h : s.clock.minuteOfDay = some m) :
    s.issueSet = setInForce s.schedule m := by
  simp [State.issueSet, h]

/-! ### BAND_CREDIT (R4) -/

section Credit
variable {s : State} {x : Serial} {m : BitVec 16}

theorem bandCredit_range (h : badSerial x) : s.bandCredit x m = .refused .range :=
  if_pos (validSerial_eq_false_iff.mpr h)

theorem bandCredit_absent (h : ¬badSerial x) (hn : s.findBand x = none) : s.bandCredit x m = .refused .notFound := by
  simp [State.bandCredit, validSerial_of_not_bad h, hn]

theorem bandCredit_present {slot : Nat} {b : Band} (h : ¬badSerial x) (hb : Present s x slot b) :
    s.bandCredit x m = .accepted (withBand s slot { b with credit := satAdd b.credit m.toNat })
      (.credit (satAdd b.credit m.toNat)) := by
  simp [State.bandCredit, validSerial_of_not_bad h, hb.2, State.modBand_of s (band?_of_present hb), State.putBand, withBand]

end Credit

/-! ### BAND_BAR (R13, R14) -/

/-- The class queues without a band's entry in the queue its link names (R7, R102). -/
def State.queuesWithout (s : State) (b : Band) : Vector (List QueueEntry) 4 :=
  match b.queueLink with
  | some l => s.classQueues.set l.cls.val ((s.classQueues[l.cls]).filter (fun e => e.serial != b.serial))
  | none => s.classQueues

/-- The entry of a band that has just been written leaves its queue. -/
theorem endQueueLink_putBand (s : State) (slot : Nat) (b : Band) : (s.putBand slot b).endQueueLink slot =
    { s.putBand slot { b with queueLink := none } with classQueues := s.queuesWithout b } := by
  unfold State.endQueueLink State.queuesWithout
  rw [State.band?_putBand_self]
  dsimp only
  cases hq : b.queueLink with
  | none => cases b; cases hq; rfl
  | some l =>
    dsimp only
    rw [State.modBand_of ((s.putBand slot b).leaveQueue l.cls b.serial) (State.band?_putBand_self s slot b)]
    simp [State.putBand, State.leaveQueue, State.putClassQueue, State.classQueue]

/-- A band BARRED and out of its queue, its call still standing (R13). -/
def State.barredAt (s : State) (slot : Nat) (b : Band) : State :=
  { s.putBand slot { b with state := .barred, queueLink := none } with classQueues := s.queuesWithout b }

theorem bar_of_band {s : State} {slot : Nat} {b : Band} (hb : s.band? slot = some b) :
    s.bar slot = (s.barredAt slot b).endCall slot := by
  rw [State.bar, State.modBand_of s hb, endQueueLink_putBand]
  rfl

/-- A band's call lapses if its link has role CALLED (R13). -/
theorem endCall_of_band {s : State} {slot : Nat} {b : Band} (hb : s.band? slot = some b) : s.endCall slot =
    match b.cabinLink with
    | some ⟨n, .called⟩ => s.lapseCall n
    | _ => s := by
  unfold State.endCall
  rw [hb]
  rfl

section Bar
variable {s : State} {x : Serial} {on : Bool}

theorem bandBar_range (h : badSerial x) : s.bandBar x on = .refused .range :=
  if_pos (validSerial_eq_false_iff.mpr h)

theorem bandBar_absent (h : ¬badSerial x) (hn : s.findBand x = none) : s.bandBar x on = .refused .notFound := by
  simp [State.bandBar, validSerial_of_not_bad h, hn]

theorem bandBar_present {slot : Nat} {b : Band} (h : ¬badSerial x) (hb : Present s x slot b) :
    s.bandBar x on = if on then s.barOn slot b else s.barOff slot b := by
  simp [State.bandBar, validSerial_of_not_bad h, hb.2]

end Bar

/-- BAND_BAR off clears the strikes, and a BARRED band's state and passed frozen exit (R14). -/
theorem unbarred_eq (b : Band) (m : Nat) : b.unbarred m =
    { b with state := if b.state = .barred then .active else b.state
             strikes := 0
             frozen := if b.state = .barred then b.frozen.filter (fun f => decide (m ≤ f.deadline)) else b.frozen } := by
  unfold Band.unbarred
  split <;> rfl

theorem barOff_of_band {s : State} {slot : Nat} {b : Band} (hb : s.band? slot = some b) :
    s.barOff slot b = .accepted (withBand s slot (b.unbarred s.clock.siteMinute))
      (.unbarred (b.unbarred s.clock.siteMinute).state) := by
  rw [State.barOff, State.modBand_of s hb]
  rfl

/-! ### BAND_VOID (R17) -/

section Void
variable {s : State} {x : Serial}

theorem bandVoid_range (h : badSerial x) : s.bandVoid x = .refused .range := if_pos (validSerial_eq_false_iff.mpr h)

theorem bandVoid_closed (h : ¬badSerial x) (hd : s.clock.day = .closed) : s.bandVoid x = .refused .state := by
  simp [State.bandVoid, validSerial_of_not_bad h, hd]

theorem bandVoid_absent (h : ¬badSerial x) (hd : s.clock.day ≠ .closed) (hn : s.findBand x = none) :
    s.bandVoid x = .refused .notFound := by
  simp [State.bandVoid, validSerial_of_not_bad h, hd, hn]

theorem bandVoid_present {slot : Nat} {b : Band} (h : ¬badSerial x) (hd : s.clock.day ≠ .closed)
    (hb : Present s x slot b) :
    s.bandVoid x = .accepted (s.remove slot) (.voided slot (s.willInspect b) (s.willOrphan b)) := by
  simp [State.bandVoid, validSerial_of_not_bad h, hd, hb.2]

end Void

/-! ### BAND_REPLACE (R18) -/

/-- An entry of a class queue keeps its ticket and minute when a serial is replaced. -/
theorem QueueEntry.rename_eq (old new : Serial) (e : QueueEntry) :
    e.rename old new = { e with serial := if e.serial = old then new else e.serial } := by
  unfold QueueEntry.rename
  split <;> rfl

/-- The record's serial, and every reference to the old one, are changed (R18, R72). -/
theorem rename_of_band {s : State} {slot : Nat} {b : Band} {old new : Serial} (hb : s.band? slot = some b) :
    s.rename slot old new =
      { withBand s slot { b with serial := new } with
          lockers := s.lockers.map (fun e => (e.1, e.2.rename old new))
          cabins := s.cabins.map (fun e => (e.1, e.2.rename old new))
          classQueues := s.classQueues.map
            (fun q => q.map (fun e => { e with serial := if e.serial = old then new else e.serial })) } := by
  rw [State.rename, State.modBand_of s hb, funext (QueueEntry.rename_eq old new)]
  rfl

section Replace
variable {s : State} {old new : Serial}

theorem bandReplace_range (h : badSerial old ∨ badSerial new) : s.bandReplace old new = .refused .range :=
  if_pos (h.imp validSerial_eq_false_iff.mpr validSerial_eq_false_iff.mpr)

theorem bandReplace_of_valid (h : ¬(badSerial old ∨ badSerial new)) : s.bandReplace old new =
    if s.clock.day = .closed then .refused .state
    else match s.findBand old with
      | none => .refused .notFound
      | some (slot, _) =>
        if (s.findBand new).isSome then .refused .inUse else .accepted (s.rename slot old new) (.slot slot) := by
  rw [← validSerial_eq_false_iff, ← validSerial_eq_false_iff] at h
  exact if_neg h

theorem bandReplace_closed (h : ¬(badSerial old ∨ badSerial new)) (hd : s.clock.day = .closed) :
    s.bandReplace old new = .refused .state := by
  rw [bandReplace_of_valid h, if_pos hd]

theorem bandReplace_absent (h : ¬(badSerial old ∨ badSerial new)) (hd : s.clock.day ≠ .closed)
    (hn : s.findBand old = none) : s.bandReplace old new = .refused .notFound := by
  rw [bandReplace_of_valid h, if_neg hd, hn]

theorem bandReplace_present {slot : Nat} {b : Band} (h : ¬(badSerial old ∨ badSerial new)) (hd : s.clock.day ≠ .closed)
    (hb : s.findBand old = some (slot, b)) : s.bandReplace old new =
      if (s.findBand new).isSome then .refused .inUse else .accepted (s.rename slot old new) (.slot slot) := by
  rw [bandReplace_of_valid h, if_neg hd, hb]

end Replace

end Sys2Proof.Machine

namespace Sys2Proof.Proofs
open Sys2Proof Sys2Proof.Machine Sys2Proof.Claims

/-- Settles O19: the checks in R3's order, each ruled out before the next. -/
theorem bandIssueResult : Obligations.BandIssueResult := by
  intro s x k g m hr hgm c wrong present
  have hw : Carries .bandIssue c := fun _ => rfl
  have refuses {e} (h : (framed s).bandIssue x k g m = .refused e) : Refuses .bandIssue c s e :=
    refuses_of_owner hr hw hgm h
  have inRange (h : ¬wrong) : ¬badSerial x ∧ k.toNat < 16 ∧ (g.getD 0).toNat ≤ 1023 := by
    simp only [wrong, not_or, Nat.not_lt] at h
    obtain ⟨hx, hk, hg⟩ := h
    exact ⟨hx, by omega, hg⟩
  refine ⟨fun h => refuses (bandIssue_range h), fun h hd => ?_, fun h hd hp => ?_, fun h hd hp hl => ?_,
    fun h hd hp hl n hn => ?_⟩ <;> obtain ⟨hx, hk, hg⟩ := inRange h
  · exact refuses ((bandIssue_of_range hx hk hg).trans (if_pos hd))
  · exact refuses ((bandIssue_of_range hx hk hg).trans
      ((if_neg (not_not_intro hd)).trans (if_pos (findBand_isSome_iff.mpr hp))))
  · exact refuses ((bandIssue_of_range hx hk hg).trans
      ((if_neg (not_not_intro hd)).trans ((if_neg (mt findBand_isSome_iff.mp hp)).trans (if_pos hl))))
  · obtain rfl : n = ⟨k.toNat, hk⟩ := Fin.ext hn
    refine ⟨(framed s).issueSet, fun m hm => issueSet_of_minute hm, answers_of_owner hr hw hgm ?_⟩
    exact (bandIssue_of_range hx hk hg).trans
      ((if_neg (not_not_intro hd)).trans ((if_neg (mt findBand_isSome_iff.mp hp)).trans (if_neg (Nat.not_le.mpr hl))))

/-- Settles O20: the refusals in their order, and the credit of the band's record in its slot. -/
theorem bandCreditResult : Obligations.BandCreditResult := by
  intro s x m hr c
  have hw : Carries .bandCredit c := fun _ => rfl
  exact ⟨fun h => refuses_of_owner hr hw trivial (bandCredit_range h),
    fun h hn => refuses_of_owner hr hw trivial (bandCredit_absent h hn),
    fun h slot b hb => answers_of_owner hr hw trivial (bandCredit_present (s := framed s) h hb)⟩

/-- Settles O21: the refusals, and what each direction leaves of the band's record, its queue and its call. -/
theorem bandBarResult : Obligations.BandBarResult := by
  intro s x hr on off
  have hon : Carries .bandBarOn on := fun _ => rfl
  have hoff : Carries .bandBarOff off := fun _ => rfl
  refine ⟨fun h => ⟨refuses_of_owner hr hon trivial (bandBar_range h), refuses_of_owner hr hoff trivial (bandBar_range h)⟩,
    fun h hn => ⟨refuses_of_owner hr hon trivial (bandBar_absent h hn),
      refuses_of_owner hr hoff trivial (bandBar_absent h hn)⟩,
    fun h slot b hb => ⟨fun hs => ?_, fun hs => ?_, ?_⟩⟩
  · exact answers_of_owner hr hon trivial ((bandBar_present (s := framed s) h hb).trans (if_pos hs))
  · refine answers_of_owner hr hon trivial ((bandBar_present (s := framed s) h hb).trans ((if_neg hs).trans ?_))
    have hband : (framed s).band? slot = some b := band?_of_present hb
    have hu : ((framed s).barredAt slot b).band? slot = some { b with state := .barred, queueLink := none } :=
      State.band?_putBand_self ..
    rw [bar_of_band hband, endCall_of_band hu]
    rfl
  · refine answers_of_owner hr hoff trivial ((bandBar_present (s := framed s) h hb).trans ?_)
    have hband : (framed s).band? slot = some b := band?_of_present hb
    exact (barOff_of_band hband).trans (by rw [unbarred_eq]; rfl)

/-- Settles O22: the refusals, and the removal with its two counts. -/
theorem bandVoidResult : Obligations.BandVoidResult := by
  intro s x hr c
  have hw : Carries .bandVoid c := fun _ => rfl
  exact ⟨fun h => refuses_of_owner hr hw trivial (bandVoid_range h),
    fun h hd => refuses_of_owner hr hw trivial (bandVoid_closed h hd),
    fun h hd hn => refuses_of_owner hr hw trivial (bandVoid_absent h hd hn),
    fun h hd slot b hb => answers_of_owner hr hw trivial (bandVoid_present (s := framed s) h hd hb)⟩

/-- Settles O24: the refusals, and every reference to the old serial changed. -/
theorem bandReplaceResult : Obligations.BandReplaceResult := by
  intro s old new hr wrong c change act
  have hw : Carries .bandReplace c := fun _ => rfl
  refine ⟨fun h => refuses_of_owner hr hw trivial (bandReplace_range h),
    fun h hd => refuses_of_owner hr hw trivial (bandReplace_closed h hd),
    fun h hd hn => refuses_of_owner hr hw trivial (bandReplace_absent h hd hn),
    fun h hd slot b hb => ⟨fun hp => ?_, fun hn => ?_⟩⟩
  · exact refuses_of_owner hr hw trivial
      ((bandReplace_present (s := framed s) h hd hb.2).trans (if_pos (findBand_isSome_iff.mpr hp)))
  · have hnew : ¬((framed s).findBand new).isSome = true := by
      rw [Bool.not_eq_true]
      exact findBand_isSome_eq_false.mpr hn
    have hren := rename_of_band (s := framed s) (old := old) (new := new) (band?_of_present hb)
    exact answers_of_owner hr hw trivial ((bandReplace_present (s := framed s) h hd hb.2).trans
      ((if_neg hnew).trans (by rw [hren]; rfl)))

end Sys2Proof.Proofs

/-! ## The removal routine (R15, R16) -/

namespace Sys2Proof.Machine.Table

variable {α : Type}

/-- In the canonical form a write at a listed key changes the value there and nothing else. -/
theorem put_eq_map {lo k : Nat} {x : α} {t : List (Nat × α)} (h : wfFrom lo t = true) (hg : get? k t = some x)
    (f : α → α) : put k (f x) t = t.map (fun e => (e.1, if e.1 = k then f e.2 else e.2)) := by
  induction t generalizing lo with
  | nil => simp [get?] at hg
  | cons e rest ih =>
    obtain ⟨j, y⟩ := e
    obtain ⟨-, hr⟩ : lo ≤ j ∧ wfFrom (j + 1) rest = true := by simpa [wfFrom] using h
    by_cases hj : j = k
    · subst hj
      obtain rfl : y = x := by simpa [get?] using hg
      have hsame : rest.map (fun e => (e.1, if e.1 = j then f e.2 else e.2)) = rest := by
        refine (List.map_congr_left fun e he => ?_).trans (List.map_id rest)
        have := le_of_mem hr he
        rw [if_neg (by omega)]
        rfl
      simpa [put] using hsame.symm
    · have hg' : get? k rest = some x := by simpa [get?, hj] using hg
      have : j + 1 ≤ k := le_of_mem hr (mem_of_get? hg')
      simp [put, hj, show ¬k < j by omega, Ne.symm hj, ih hr hg']

/-- A change at a key that is not listed changes nothing. -/
theorem map_of_get?_none {k : Nat} {t : List (Nat × α)} (hg : get? k t = none) (f : α → α) :
    t.map (fun e => (e.1, if e.1 = k then f e.2 else e.2)) = t := by
  induction t with
  | nil => rfl
  | cons e rest ih =>
    obtain ⟨j, y⟩ := e
    by_cases hj : j = k
    · simp [get?, hj] at hg
    · simpa [hj] using ih (by simpa [get?, hj] using hg)

/-- A key that is not listed is dropped without effect. -/
theorem drop_of_lt {k : Nat} {t : List (Nat × α)} (h : ∀ e ∈ t, k < e.1) : drop k t = t := by
  induction t with
  | nil => rfl
  | cons e rest ih =>
    obtain ⟨hk, hrest⟩ := List.forall_mem_cons.mp h
    simp [drop, Nat.ne_of_gt hk, ih hrest]

/-- In the canonical form a dropped key takes a write there with it. -/
theorem drop_put {lo k : Nat} (x : α) {t : List (Nat × α)} (h : wfFrom lo t = true) :
    drop k (put k x t) = drop k t := by
  induction t generalizing lo with
  | nil => simp [put, drop]
  | cons e rest ih =>
    obtain ⟨j, y⟩ := e
    obtain ⟨-, hr⟩ : lo ≤ j ∧ wfFrom (j + 1) rest = true := by simpa [wfFrom] using h
    rcases Nat.lt_trichotomy k j with hlt | rfl | hgt
    · have hlow : ∀ e ∈ (j, y) :: rest, k < e.1 :=
        List.forall_mem_cons.mpr ⟨hlt, fun e he => by have := le_of_mem hr he; omega⟩
      rw [drop_of_lt hlow]
      simp [put, hlt, drop]
    · simp [put, drop]
    · simp [put, drop, show ¬k < j by omega, show k ≠ j by omega, show j ≠ k by omega, ih hr]

end Sys2Proof.Machine.Table

namespace Sys2Proof.Machine
open Sys2Proof.Claims

/-! ### One held locker (R15) -/

/-- A held locker as the removal of its holder leaves it: settled by its action, else by its state (R15). -/
def Locker.settled (l : Locker) : Locker :=
  match l.action, l.state with
  | some a, _ => { l with holder := none, action := some { a with orphaned := true } }
  | none, .locked => { l with state := .inspect, holder := none }
  | none, .released => { l with state := .vacant, holder := none }
  | none, .reserved => { l with state := .vacant, holder := none, reserveDeadline := none }
  | none, _ => { l with holder := none }

/-- The locker exists, stands in a state and has no action in flight. -/
def State.rests (s : State) (st : LockerState) (n : Fin 1024) : Bool :=
  (s.locker? n).any (fun l => l.state == st && l.action.isNone)

/-- The latches once a locker's removal to INSPECT is noticed (R57, R147). -/
def inspectNoticed (minute : Nat) (v : Vector Latch 8) (n : Fin 1024) : Vector Latch 8 :=
  v.set AlertClass.inspect.index.val
    ⟨some ⟨minute, .locker n, .cause .removed⟩, ((v[AlertClass.inspect.index]).sequence + 1) % 8⟩

/-- The settling of one held locker: its entry, a notice if it was LOCKED, a place given up if it was RESERVED. -/
theorem settleLocker_eq (s : State) (n : Fin 1024) : s.settleLocker n =
    { s with
        lockers := (s.modLocker n Locker.settled).lockers
        alerts := if s.rests .locked n then inspectNoticed s.clock.siteMinute s.alerts n else s.alerts
        queue := { s.queue with reserved := s.queue.reserved - if s.rests .reserved n then 1 else 0 } } := by
  unfold State.settleLocker State.rests State.modLocker
  cases hl : s.locker? n with
  | none => rfl
  | some l =>
    obtain ⟨st, z, x, d, b, r, a⟩ := l
    cases a with
    | some a => simp [Locker.settled, State.putLocker]
    | none => cases st <;>
        simp [Locker.settled, State.putLocker, State.enterInspect, State.modLocker, hl, State.alert, State.putLatch,
          State.latch, inspectNoticed, State.release]

/-- The settling of one locker changes no other. -/
theorem locker?_settleLocker_ne (s : State) {n m : Fin 1024} (h : m ≠ n) :
    (s.settleLocker n).locker? m = s.locker? m := by
  have e : (s.settleLocker n).locker? m = (s.modLocker n Locker.settled).locker? m := by rw [settleLocker_eq]; rfl
  rw [e, State.modLocker]
  split
  · exact State.locker?_putLocker_ne s h _
  · rfl

theorem locker?_settleLocker_self (s : State) (n : Fin 1024) :
    (s.settleLocker n).locker? n = (s.locker? n).map Locker.settled := by
  have e : (s.settleLocker n).locker? n = (s.modLocker n Locker.settled).locker? n := by rw [settleLocker_eq]; rfl
  rw [e, State.modLocker]
  cases hl : s.locker? n with
  | none => simpa using hl
  | some l => simp

/-! ### The lockers of a holdings list (R15) -/

/-- What the settling of a list of lockers leaves: the entries, the notices of the LOCKED ones in their order, and the
places of the RESERVED ones given up. -/
structure SettledBy (s : State) (l : List (Fin 1024)) (u : State) : Prop where
  frame : u = { s with
    lockers := u.lockers
    alerts := (l.filter (s.rests .locked)).foldl (inspectNoticed s.clock.siteMinute) s.alerts
    queue := { s.queue with reserved := s.queue.reserved - (l.filter (s.rests .reserved)).length } }
  held : ∀ n ∈ l, u.locker? n = (s.locker? n).map Locker.settled
  others : ∀ n ∉ l, u.locker? n = s.locker? n

theorem settledBy_foldl (s : State) (l : List (Fin 1024)) (hl : l.Nodup) :
    SettledBy s l (l.foldl State.settleLocker s) := by
  induction l generalizing s with
  | nil => exact ⟨rfl, by simp, fun _ _ => rfl⟩
  | cons n l ih =>
    obtain ⟨hn, hl⟩ := List.nodup_cons.mp hl
    obtain ⟨frame, held, others⟩ := ih (s.settleLocker n) hl
    have rests (st : LockerState) : l.filter ((s.settleLocker n).rests st) = l.filter (s.rests st) :=
      List.filter_congr fun m hm => by
        rw [State.rests, locker?_settleLocker_ne s (ne_of_mem_of_not_mem hm hn)]
        rfl
    refine ⟨?_, fun m hm => ?_, fun m hm => ?_⟩
    · rw [List.foldl_cons]
      rw [frame, rests, rests, settleLocker_eq]
      cases hl : s.rests .locked n <;> cases hr : s.rests .reserved n <;>
        simp [hl, hr, Nat.sub_sub, Nat.add_comm]
    · rcases List.mem_cons.mp hm with rfl | hm
      · rw [List.foldl_cons, others _ hn, locker?_settleLocker_self]
      · rw [List.foldl_cons, held m hm, locker?_settleLocker_ne s (ne_of_mem_of_not_mem hm hn)]
    · obtain ⟨hne, hm⟩ : m ≠ n ∧ m ∉ l := by simpa using hm
      rw [List.foldl_cons, others m hm, locker?_settleLocker_ne s hne]

/-- Of several notices in the INSPECT latch the last stands, and each has raised the sequence number (R147). -/
theorem foldl_inspectNoticed (minute : Nat) (v : Vector Latch 8) (l : List (Fin 1024)) (n : Fin 1024) :
    (l ++ [n]).foldl (inspectNoticed minute) v = v.set AlertClass.inspect.index.val
      ⟨some ⟨minute, .locker n, .cause .removed⟩,
        ((v[AlertClass.inspect.index]).sequence + (l ++ [n]).length) % 8⟩ := by
  induction l generalizing v with
  | nil => rfl
  | cons m l ih =>
    rw [List.cons_append, List.foldl_cons, ih]
    simp [inspectNoticed, Nat.add_assoc, Nat.add_comm 1]

/-! ### The links (R7, R16) -/

/-- A change of a cabin's entry, in the canonical form: the entry at its key, and nothing else. -/
theorem modCabin_eq_map {s : State} (hc : Table.wf s.cabins = true) (n : Fin 64) (f : Cabin → Cabin) :
    s.modCabin n f = { s with cabins := s.cabins.map (fun e => (e.1, if e.1 = n.val then f e.2 else e.2)) } := by
  unfold State.modCabin
  cases hn : s.cabin? n with
  | none => simp only [Table.map_of_get?_none (k := n.val) hn f]
  | some c => simp only [State.putCabin, Table.put_eq_map hc hn f]

/-- The cabin link of a leaving band is settled by its role (R16). -/
theorem settleCabin_of_band {s : State} {slot : Nat} {b : Band} (hb : s.band? slot = some b) : s.settleCabin slot =
    match b.cabinLink with
    | some ⟨n, .called⟩ => s.lapseCall n
    | some ⟨n, .occupant⟩ => s.modCabin n (fun c => { c with band := none })
    | none => s := by
  unfold State.settleCabin
  rw [hb]
  rfl

/-- The record in a slot, if there is one, carries a serial, and the Visit Table is in the form. -/
def SlotCarries (slot : Nat) (x : Serial) (v : List (Nat × Band)) : Prop :=
  Table.wf v = true ∧ ∀ b, Table.get? slot v = some b → b.serial = x

/-- Every operation that is no owner's keeps the serial of a slot's record. -/
theorem keptCore_slotCarries (slot : Nat) (x : Serial) : KeptCore (fun s => SlotCarries slot x s.visit) :=
  keptCore_of_visit (Q := fun _ v => SlotCarries slot x v)
    (by
      intro _ v k b b' hs hb ⟨hw, hx⟩
      refine ⟨Table.wf_put _ _ hw, fun d hd => ?_⟩
      by_cases hk : slot = k
      · subst hk
        obtain rfl : b' = d := by simpa using hd
        exact hs.trans (hx b hb)
      · exact hx d (by rwa [Table.get?_put_ne hk] at hd))
    (by
      intro _ v k ⟨hw, hx⟩
      refine ⟨Table.wf_drop _ hw, fun d hd => ?_⟩
      by_cases hk : slot = k
      · subst hk; simp [Table.get?_drop_self hw] at hd
      · exact hx d (by rwa [Table.get?_drop_ne hk] at hd))

/-- The end of the removal: the band's entry leaves the queue it waits in, and the slot is free (R15, R16). -/
theorem endQueueLink_dropBand {s : State} {slot : Nat} {x : Serial} (h : SlotCarries slot x s.visit) :
    (s.endQueueLink slot).dropBand slot =
      { s with
        visit := Table.drop slot s.visit
        classQueues := match (s.band? slot).bind Band.queueLink with
          | some q => s.classQueues.set q.cls.val ((s.classQueues[q.cls]).filter (fun e => e.serial != x))
          | none => s.classQueues } := by
  obtain ⟨hw, hx⟩ := h
  unfold State.endQueueLink
  cases hb : s.band? slot with
  | none => rfl
  | some b =>
    obtain rfl := hx b hb
    dsimp only [Option.bind_some]
    cases hq : b.queueLink with
    | none => rfl
    | some q =>
      dsimp only
      rw [State.modBand_of (s.leaveQueue q.cls b.serial) hb]
      simp only [State.dropBand, State.putBand, State.leaveQueue, State.putClassQueue, State.classQueue]
      rw [Table.drop_put _ hw]

/-! ### A call that lapses (R13, R115) -/

/-- The clear-cabin-link step, in the canonical form. -/
theorem clearCabinLink_eq {s : State} (hw : Table.wf s.visit = true) (x : Option Serial) :
    s.clearCabinLink x = unlinked s x := by
  cases x with
  | none => rfl
  | some x =>
    unfold State.clearCabinLink State.modSerial unlinked
    dsimp only
    cases hf : s.findBand x with
    | none => rfl
    | some e =>
      obtain ⟨slot, b⟩ := e
      dsimp only
      rw [State.modBand_of s (Table.get?_of_mem hw (mem_of_findBand hf).1)]
      rfl

/-- The clearing of a link writes the Visit Table alone. -/
theorem unlinked_only (s : State) (x : Option Serial) : ∃ v, unlinked s x = { s with visit := v } := by
  unfold unlinked
  repeat' split
  all_goals exact ⟨_, rfl⟩

@[simp] theorem unlinked_clock (s : State) (x : Option Serial) : (unlinked s x).clock = s.clock := by
  obtain ⟨v, hv⟩ := unlinked_only s x
  rw [hv]

@[simp] theorem unlinked_cabin? (s : State) (x : Option Serial) (n : Fin 64) :
    (unlinked s x).cabin? n = s.cabin? n := by
  obtain ⟨v, hv⟩ := unlinked_only s x
  rw [hv]
  rfl

/-- A cabin that comes free outside an evacuation runs its call step (R113). -/
theorem freeUp_of_cabin {s : State} {n : Fin 64} {c : Cabin} (hc : s.cabin? n = some c)
    (he : s.clock.evacuation = false) :
    s.freeUp n = (withCabin s n { c with band := none, ticket := none, slot := false, state := .free }).callStep n := by
  unfold State.freeUp
  rw [State.modCabin_of s hc]
  simp only [State.putCabin_clock, he, State.modCabin_of _ (State.cabin?_putCabin_self ..), State.putCabin_putCabin]
  rfl

/-- A call that lapses turns its place into CALL_LAPSED and frees its cabin (R115). -/
theorem lapseCall_of_called {s : State} {n : Fin 64} {c : Cabin} (hw : Table.wf s.visit = true)
    (hc : s.cabin? n = some c) (hs : c.state = .called) (hr : 0 < s.queue.reserved) (he : s.clock.evacuation = false) :
    s.lapseCall n = (withCabin (unlinked (converted s (.callLapsed n c.band c.ticket)) c.band) n
      { c with callDeadline := none, band := none, ticket := none, slot := false, state := .free }).callStep n := by
  have hconv : s.convert (.callLapsed n c.band c.ticket) = converted s (.callLapsed n c.band c.ticket) :=
    State.convert_of_pos hr
  have hcab : (unlinked (converted s (.callLapsed n c.band c.ticket)) c.band).cabin? n = some c := by
    rw [unlinked_cabin?]
    exact hc
  unfold State.lapseCall
  rw [hc]
  dsimp only
  rw [if_neg (not_not_intro hs), hconv, clearCabinLink_eq (s := converted s _) hw, State.modCabin_of _ hcab,
    freeUp_of_cabin (State.cabin?_putCabin_self ..) (by rw [State.putCabin_clock, unlinked_clock]; exact he)]
  simp [withCabin, State.putCabin]

end Sys2Proof.Machine

namespace Sys2Proof.Proofs
open Sys2Proof Sys2Proof.Machine Sys2Proof.Claims

/-- Settles O23: the lockers by the settling of each in turn, the cabin link by its role, and the band's entry and slot;
a call that lapses by the steps of R115. -/
theorem removalRoutine : Obligations.RemovalRoutine := by
  refine ⟨?_, fun s n c hwf hc => ⟨fun hs => ?_, fun hs hr he => lapseCall_of_called hwf.1 hc hs hr he⟩⟩
  · rintro s slot b ⟨hv, -, hcabins, -⟩ hb hnd hit
    obtain ⟨frame, held, others⟩ := settledBy_foldl s b.holdings hnd
    have hremove : s.remove slot =
        (((b.holdings.foldl State.settleLocker s).settleCabin slot).endQueueLink slot).dropBand slot := by
      rw [State.remove, hb]
    generalize b.holdings.foldl State.settleLocker s = u at frame held others hremove
    have halerts : u.alerts = (hit .locked).foldl (inspectNoticed s.clock.siteMinute) s.alerts :=
      congrArg State.alerts frame
    have huband : u.band? slot = some b := by rw [frame]; exact hb
    have hucabins : Table.wf u.cabins = true := by rw [frame]; exact hcabins
    have hucarries : SlotCarries slot b.serial u.visit := by
      rw [frame]
      refine ⟨hv, fun d hd => ?_⟩
      obtain rfl : b = d := Option.some_inj.mp (hb.symm.trans hd)
      rfl
    refine ⟨u, by rw [halerts]; exact frame, fun n hn l hl => ?_, fun n hn => ?_, fun h => by rw [halerts, h]; rfl,
      fun l n h => by rw [halerts, h, foldl_inspectNoticed], u.settleCabin slot, ?_, ?_⟩
    · rw [held n hn, hl]
      rfl
    · by_cases hin : n ∈ b.holdings
      · have hnone := hn.resolve_left (not_not_intro hin)
        rw [held n hin, hnone]
        rfl
      · exact others n hin
    · rw [settleCabin_of_band huband]
      rcases b.cabinLink with _ | ⟨n, _ | _⟩
      · rfl
      · rfl
      · exact modCabin_eq_map hucabins n _
    · exact hremove.trans (endQueueLink_dropBand ((keptCore_slotCarries slot b.serial).settleCabin hucarries))
  · unfold State.lapseCall
    rw [hc]
    exact if_pos hs

end Sys2Proof.Proofs

/-! ## Queries, loads and the cold reset -/

namespace Sys2Proof.Machine
open Sys2Proof.Claims

/-! ### BAND_QUERY, LOCKER_QUERY (R19, R69) -/

section Queries
variable {s : State}

theorem bandQuery_range {x : Serial} (h : badSerial x) : s.bandQuery x = .refused .range :=
  if_pos (validSerial_eq_false_iff.mpr h)

theorem bandQuery_absent {x : Serial} (h : ¬badSerial x) (hn : s.findBand x = none) :
    s.bandQuery x = .refused .notFound := by
  simp [State.bandQuery, validSerial_of_not_bad h, hn]

theorem bandQuery_present {x : Serial} {slot : Nat} {b : Band} (h : ¬badSerial x) (hb : s.findBand x = some (slot, b)) :
    s.bandQuery x = .accepted s (.band (s.reportBand slot b)) := by
  simp [State.bandQuery, validSerial_of_not_bad h, hb]

/-- The entries of the numbers from `f` to `l`. -/
def State.entriesIn (s : State) (f l : Nat) : List (Option Locker) :=
  (List.range (l - f + 1)).map (fun i => Table.get? (f + i) s.lockers)

theorem lockerQuery_range {f l : BitVec 16} (h : ¬(l.toNat ≤ 1023 ∧ f.toNat ≤ l.toNat ∧ l.toNat ≤ f.toNat + 3)) :
    s.lockerQuery f l = .refused .range := by
  unfold State.lockerQuery
  by_cases hf : f.toNat < 1024 <;> by_cases hl : l.toNat < 1024
  · rw [below_of_lt hf, below_of_lt hl]
    exact if_pos (by rw [Fin.mk_lt_mk]; dsimp only; omega)
  · rw [below_of_lt hf, below_of_le (Nat.not_lt.mp hl)]
  · rw [below_of_le (Nat.not_lt.mp hf)]
  · rw [below_of_le (Nat.not_lt.mp hf)]

theorem lockerQuery_of_range {f l : BitVec 16} (h : l.toNat ≤ 1023 ∧ f.toNat ≤ l.toNat ∧ l.toNat ≤ f.toNat + 3) :
    s.lockerQuery f l =
      if (s.entriesIn f.toNat l.toNat).all Option.isNone then .refused .notFound
      else .accepted s (.lockers ((s.entriesIn f.toNat l.toNat).map (fun e => e.map (fun l => l.report s.now)))) := by
  obtain ⟨hl, hfl, hlen⟩ := h
  unfold State.lockerQuery
  rw [below_of_lt (show f.toNat < 1024 by omega), below_of_lt (show l.toNat < 1024 by omega)]
  exact if_neg (by rw [Fin.mk_lt_mk]; dsimp only; omega)

/-- Some entry of a range exists, or none does. -/
theorem entriesIn_all_isNone_iff {f l : Nat} : (s.entriesIn f l).all Option.isNone = true ↔
    ¬∃ i, i ≤ l - f ∧ (Table.get? (f + i) s.lockers).isSome = true := by
  simp only [State.entriesIn, List.all_map, List.all_eq_true, List.mem_range, Function.comp_apply, Nat.lt_add_one_iff,
    not_exists, not_and, Bool.not_eq_true, Option.isSome_eq_false_iff]

/-! ### Queries of one number (R70, R121, R122, R150) -/

theorem lockerQueryZone_range {x : Byte} (h : 15 < x.toNat) : s.lockerQueryZone x = .refused .range := by
  rw [State.lockerQueryZone, below_of_le h]

theorem cabinQuery_range {x : Byte} (h : 63 < x.toNat) : s.cabinQuery x = .refused .range := by
  rw [State.cabinQuery, below_of_le h]

theorem cabinQuery_absent {n : Fin 64} (h : s.cabin? n = none) :
    s.cabinQuery (BitVec.ofNat 8 n.val) = .refused .notFound := by
  rw [State.cabinQuery, below_byte n (by decide)]
  dsimp only
  rw [h]

theorem cabinQuery_present {n : Fin 64} {c : Cabin} (h : s.cabin? n = some c) :
    s.cabinQuery (BitVec.ofNat 8 n.val) = .accepted s (.cabin (c.report n s.now)) := by
  rw [State.cabinQuery, below_byte n (by decide)]
  dsimp only
  rw [h]

theorem queueQuery_range {x : Byte} (h : 3 < x.toNat) : s.queueQuery x = .refused .range := by
  rw [State.queueQuery, below_of_le h]

/-- The classes are numbered 1 to 8 (R147). -/
theorem alertClassOf_number (c : AlertClass) : alertClassOf (BitVec.ofNat 8 c.number).toNat = some c := by
  cases c <;> rfl

theorem alertClassOf_out {x : Byte} (h : x = 0 ∨ 8 < x.toNat) : alertClassOf x.toNat = none := by
  simp only [alertClassOf, AlertClass.all, List.find?_eq_none]
  intro c _
  have hc : 1 ≤ c.number ∧ c.number ≤ 8 := by cases c <;> decide
  rcases h with rfl | h
  · simp
    omega
  · simp
    omega

theorem alertPeek_range {x : Byte} (h : x = 0 ∨ 8 < x.toNat) : s.alertPeek x = .refused .range := by
  rw [State.alertPeek, alertClassOf_out h]

theorem alertPeek_class (c : AlertClass) :
    s.alertPeek (BitVec.ofNat 8 c.number) = .accepted s (.alert (some (c, s.latch c))) := by
  rw [State.alertPeek, alertClassOf_number]

end Queries

/-! ### The loads (R8, R59, R101, R124, R129): the clamped fields, and where they are stored -/

theorem clamp_zero (hi n : Nat) : clamp 0 hi n = min n hi := by simp [clamp, Nat.min_comm]

theorem ClassDesc.load_eq (hold grace : Byte) (f m : BitVec 4) (a : BitVec 16) : ClassDesc.load hold f a grace m =
    ⟨if hold.toNat ≤ 1 then 1 else 2, f.getLsbD 0, f.getLsbD 1, f.getLsbD 2, f.getLsbD 3, min a.toNat 1023,
      min grace.toNat 63, m⟩ := by
  have hh : clamp 1 2 hold.toNat = if hold.toNat ≤ 1 then 1 else 2 := by unfold clamp; split <;> omega
  rw [ClassDesc.load, hh, clamp_zero, clamp_zero]

theorem Tariff.load_eq (step : Byte) (p cap : BitVec 16) : Tariff.load step p cap =
    ⟨min 120 (max 1 step.toNat), min p.toNat 9999, cap.toNat⟩ := by
  rw [Tariff.load, clamp_zero]
  rfl

theorem Zone.load_eq (i : BitVec 3) (fee mask : BitVec 16) (mo : ZoneMode) (w : Byte) (r : Bool) :
    Zone.load i fee mask mo w r = ⟨min i.toNat 3, min fee.toNat 9999, mask, mo, max 10 w.toNat, r⟩ := by
  have hw : clamp 10 255 w.toNat = max 10 w.toNat := by have := w.isLt; unfold clamp; omega
  rw [Zone.load, hw, clamp_zero, clamp_zero]

theorem CabinParams.load_eq (m w b : Byte) (a e n : BitVec 16) : CabinParams.load a e m w n b =
    ⟨min 3600 (max 60 a.toNat), min 1800 (max 60 e.toNat), min m.toNat 3, min 120 (max 15 w.toNat),
      min (min n.toNat 300) (min 3600 (max 60 a.toNat)), min 40 (max 2 b.toNat)⟩ := by
  rw [CabinParams.load, clamp_zero, clamp_zero]
  rfl

theorem Control.load_eq (h l r a t : Byte) : Control.load h l r a t =
    ⟨min h.toNat 60, if l.toNat = 0 then 0 else if l.toNat < 3 then 3 else if 7 < l.toNat then 7 else l.toNat,
      min r.toNat 3, min 50 (max 5 a.toNat), min 50 (max 2 t.toNat)⟩ := by
  have hl : clampStrikeLimit l.toNat =
      if l.toNat = 0 then 0 else if l.toNat < 3 then 3 else if 7 < l.toNat then 7 else l.toNat := by
    unfold clampStrikeLimit clamp
    repeat' split
    all_goals omega
  rw [Control.load, hl, clamp_zero, clamp_zero]
  rfl

section Loads
variable {s : State}

theorem classLoad_range {k : Byte} {d : ClassDesc} (h : 15 < k.toNat) : s.classLoad k d = .refused .range := by
  rw [State.classLoad, below_of_le h]

theorem classLoad_stores {k : Byte} {d : ClassDesc} (h : k.toNat < 16) :
    s.classLoad k d = .accepted { s with classes := s.classes.set k.toNat d } (.classDesc d) := by
  rw [State.classLoad, below_of_lt h]

theorem tariffLoad_range {q k : Byte} {t : Tariff} (h : 3 < q.toNat ∨ 15 < k.toNat) :
    s.tariffLoad q k t = .refused .range := by
  unfold State.tariffLoad
  rcases h with h | h
  · rw [below_of_le h]
  · rw [below_of_le (n := 16) h]
    cases below 4 q.toNat <;> rfl

theorem tariffLoad_stores {q k : Byte} {t : Tariff} (hq : q.toNat < 4) (hk : k.toNat < 16) :
    s.tariffLoad q k t = .accepted
      { s with tariffs := s.tariffs.set q.toNat ((s.tariffs[q.toNat]).set k.toNat t) } (.tariff t) := by
  rw [State.tariffLoad, below_of_lt hq, below_of_lt hk]
  rfl

theorem zoneLoad_all {z : Zone} : s.zoneLoad 255 z = .accepted { s with zones := Vector.replicate 16 z } (.zone z) := rfl

theorem zoneLoad_range {x : Byte} {z : Zone} (hx : x ≠ 255) (h : 15 < x.toNat) : s.zoneLoad x z = .refused .range := by
  rw [State.zoneLoad, if_neg hx, below_of_le h]

theorem zoneLoad_stores {x : Byte} {z : Zone} (h : x.toNat < 16) :
    s.zoneLoad x z = .accepted { s with zones := s.zones.set x.toNat z } (.zone z) := by
  have hx : x ≠ 255 := by rintro rfl; simp at h
  rw [State.zoneLoad, if_neg hx, below_of_lt h]

theorem cabinClassLoad_range {k : Byte} {p : CabinParams} (h : 3 < k.toNat) : s.cabinClassLoad k p = .refused .range := by
  rw [State.cabinClassLoad, below_of_le h]

theorem cabinClassLoad_stores {k : Byte} {p : CabinParams} (h : k.toNat < 4) :
    s.cabinClassLoad k p = .accepted { s with cabinClasses := s.cabinClasses.set k.toNat p } (.cabinParams p) := by
  rw [State.cabinClassLoad, below_of_lt h]

/-- An attempt number stands above the new retries plus 1, at a locker or at a cabin (R129). -/
theorem attemptAbove_iff {n : Nat} : s.attemptAbove n = true ↔
    (∃ e ∈ s.lockers, ∃ x, e.2.action = some x ∧ n + 1 < x.attempt)
      ∨ ∃ e ∈ s.cabins, ∃ x, e.2.action = some x ∧ n + 1 < x.attempt := by
  simp [State.attemptAbove, Option.any_eq_true]

end Loads

/-! ### COLD_RESET (R191, R192) -/

/-- A line after a cold reset is released, and its settle timer runs while its pin is high. -/
theorem Line.watch_reset (high : Bool) (now : Nat) : (Line.reset high).watch now =
    ⟨.unmapped, false, false, high, if high then some (now + 50) else none⟩ := by
  cases high <;> rfl

end Sys2Proof.Machine

namespace Sys2Proof.Proofs
open Sys2Proof Sys2Proof.Machine Sys2Proof.Claims

/-- Settles O25: each query's refusals, and its report. -/
theorem queriesReport : Obligations.QueriesReport := by
  intro s hr
  refine ⟨?_, ?_, ?_, ?_, ?_, ?_, ?_, ?_, ?_, ?_⟩
  · intro x slot b hx hb
    exact answers_of_owner hr (fun _ => rfl) trivial (bandQuery_present hx hb.2)
  · intro x
    exact ⟨fun hx => refuses_of_owner hr (fun _ => rfl) trivial (bandQuery_range hx),
      fun hx hn => refuses_of_owner hr (fun _ => rfl) trivial (bandQuery_absent hx hn)⟩
  · intro f l entry some4 good
    refine ⟨fun h => refuses_of_owner hr (fun _ => rfl) trivial (lockerQuery_range h), fun h hn => ?_, fun h hs => ?_⟩
    · exact refuses_of_owner hr (fun _ => rfl) trivial
        ((lockerQuery_of_range h).trans (if_pos (entriesIn_all_isNone_iff.mpr hn)))
    · refine answers_of_owner hr (fun _ => rfl) trivial
        ((lockerQuery_of_range h).trans ((if_neg (mt entriesIn_all_isNone_iff.mp (not_not_intro hs))).trans ?_))
      rw [State.entriesIn, List.map_map]
      rfl
  · intro x
    exact ⟨fun h => refuses_of_owner hr (fun _ => rfl) trivial (lockerQueryZone_range h),
      fun h => refuses_of_owner hr (fun _ => rfl) trivial (cabinQuery_range h),
      fun h => refuses_of_owner hr (fun _ => rfl) trivial (queueQuery_range h),
      fun h => refuses_of_owner hr (fun _ => rfl) trivial (alertPeek_range h)⟩
  · intro n hn
    exact refuses_of_owner hr (fun _ => rfl) trivial (cabinQuery_absent (s := framed s) hn)
  · intro z named
    refine answers_of_owner hr (fun _ => rfl) trivial ?_
    change (framed s).lockerQueryZone _ = _
    rw [State.lockerQueryZone, below_byte z (by decide)]
    rfl
  · intro n c hc
    exact answers_of_owner hr (fun _ => rfl) trivial (cabinQuery_present (s := framed s) hc)
  · intro k free
    refine answers_of_owner hr (fun _ => rfl) trivial ?_
    change (framed s).queueQuery _ = _
    rw [State.queueQuery, below_byte k (by decide)]
    rfl
  · intro c
    exact answers_of_owner hr (fun _ => rfl) trivial (alertPeek_class c)
  · exact answers_of_owner hr (fun _ => rfl) trivial rfl

/-- Settles O26: each load's refusals, and its clamped value in its place. -/
theorem loadsStore : Obligations.LoadsStore := by
  intro s hr
  refine ⟨?_, ?_, ?_, ?_, ?_⟩
  · intro k hold grace f m a c d
    refine ⟨fun h => refuses_of_owner hr (fun _ => rfl) trivial (classLoad_range h), fun h => ?_⟩
    refine answers_of_owner hr (fun _ => rfl) trivial ((classLoad_stores (s := framed s) h).trans ?_)
    rw [ClassDesc.load_eq]
    rfl
  · intro q k step p cap c t
    refine ⟨fun h => refuses_of_owner hr (fun _ => rfl) trivial (tariffLoad_range h), fun hq hk => ?_⟩
    refine answers_of_owner hr (fun _ => rfl) trivial ((tariffLoad_stores (s := framed s) hq hk).trans ?_)
    rw [Tariff.load_eq]
    rfl
  · intro z i fee mask mo w r c d
    refine ⟨?_, fun hz h => refuses_of_owner hr (fun _ => rfl) trivial (zoneLoad_range hz h), fun h => ?_⟩
    · rintro rfl
      refine answers_of_owner hr (fun _ => rfl) trivial ((zoneLoad_all (s := framed s)).trans ?_)
      rw [Zone.load_eq]
    · refine answers_of_owner hr (fun _ => rfl) trivial ((zoneLoad_stores (s := framed s) h).trans ?_)
      rw [Zone.load_eq]
      rfl
  · intro k m w b a e n c allowance d
    refine ⟨fun h => refuses_of_owner hr (fun _ => rfl) trivial (cabinClassLoad_range h), fun h => ?_⟩
    refine answers_of_owner hr (fun _ => rfl) trivial ((cabinClassLoad_stores (s := framed s) h).trans ?_)
    rw [CabinParams.load_eq]
    rfl
  · intro h l r a t c limit d busy
    have hload : owner c (framed s) = (framed s).controlLoad d :=
      congrArg (framed s).controlLoad (Control.load_eq h l r a t)
    exact ⟨fun hb => refuses_of_owner hr (fun _ => rfl) trivial (hload.trans (if_pos (attemptAbove_iff.mpr hb))),
      fun hb => answers_of_owner hr (fun _ => rfl) trivial (hload.trans (if_neg (mt attemptAbove_iff.mp hb)))⟩

/-- Settles O3: the reset state, in which the arbiter finds nothing to send. -/
theorem coldResetResult : Obligations.ColdResetResult := by
  intro straps s
  have harb : ((counted s).coldReset straps).arbitrate = (counted s).coldReset straps := rfl
  refine ⟨(counted s).coldReset straps, congrArg Host.Outcome.next harb, ⟨rfl, rfl, rfl⟩, fun k => ?_,
    fun q k => ?_, rfl, rfl, fun z => ?_, fun k => ?_, rfl, fun i => ?_, fun sp => ?_, rfl, rfl, fun i => ?_, rfl, rfl, rfl⟩
  · simp [State.coldReset, State.reset, ClassDesc.reset]
  · simp [State.coldReset, State.reset, Tariff.reset]
  · simp [State.coldReset, State.reset, Zone.reset]
  · simp [State.coldReset, State.reset, CabinParams.reset]
  · simp [State.coldReset, State.reset]
  · simp [State.coldReset, State.reset, Spur.reset]
  · exact (Vector.getElem_map _ i.isLt).trans (Line.watch_reset ..)

end Sys2Proof.Proofs

/-! ## Tap resolution (02) -/

namespace Sys2Proof.Machine
open Sys2Proof.Claims

/-! ### An item taken off its reply (R158, R159) -/

/-- An item of a reply that is not discarded has its effect, and leaves the reply. -/
theorem takeItem_of_alive {s : State} {sp : Fin 4} (h : alive s sp) (a : Fin 32) (it : ReplyItem) (f : State → State) :
    s.takeItem sp a it f = handed s (f s) sp a it := by
  unfold State.takeItem handed
  rw [h]
  rfl

/-- An item without effect leaves its reply, discarded or not. -/
theorem takeItem_of_fixed {s : State} {f : State → State} (h : f s = s) (sp : Fin 4) (a : Fin 32) (it : ReplyItem) :
    s.takeItem sp a it f = handed s s sp a it := by
  unfold State.takeItem handed
  rw [h, ite_self]

/-! ### The row of a tap, and what it resolves to -/

/-- What a tap does at a head of an enrolment: the effect its row names (R32, R87, R103, R112, R130). -/
def State.resolveTap (s : State) (t : Tap) : Enrolment → State
  | .lock _ => s.tapLock t
  | .kiosk z => s.tapKiosk t z
  | .cabin n => if t.reader = 0 then s.tapOutside t n else s.tapInside t n
  | .exit => s.tapExit t

/-- The effect of the row for one enrolment's type, at a head of whatever enrolment (log 17). -/
def tapEffect (t : Tap) (e found : Enrolment) (s : State) : State :=
  if found.type = e.type then s.resolveTap t found else s

/-- An event that takes a tap by an effect which is, at each enrolment, that of a row's type. -/
theorem event_takeTap {t : Tap} {e : Enrolment} {f : Enrolment → State → State} (h : ∀ found, f found = tapEffect t e found)
    (s : State) : event (State.takeTap · t f) s = .next ((counted s).takeTap t (tapEffect t e)).arbitrate := by
  rw [funext h]
  rfl

/-- The row of a tap is the taking of the tap by its effect, as one event. -/
theorem exec_tapRow {t : Tap} {e : Enrolment} (h : ReaderFits t e) (s : State) :
    exec (tapRow t e) s = .next ((counted s).takeTap t (tapEffect t e)).arbitrate := by
  obtain ⟨sp, a, r, x⟩ := t
  cases e with
  | lock k => exact event_takeTap (fun found => by cases found <;> rfl) s
  | kiosk z =>
    obtain rfl : r = 0 := h
    exact event_takeTap (fun found => by cases found <;> rfl) s
  | exit =>
    obtain rfl : r = 0 := h
    exact event_takeTap (fun found => by cases found <;> rfl) s
  | cabin n =>
    have hr : r = 0 ∨ r = 1 := by
      have : r.val ≤ 1 := h
      omega
    rcases hr with rfl | rfl
    · exact event_takeTap (fun found => by cases found <;> rfl) s
    · exact event_takeTap (fun found => by cases found <;> rfl) s

/-- A tap that arrives names a reader of its head. -/
theorem readerFits_of_arrives {s : State} {t : Tap} {e : Enrolment} (h : Arrives s t e) : ReaderFits t e := by
  obtain ⟨-, -, -, h⟩ := h
  cases e with
  | lock k => trivial
  | cabin n => exact h.1
  | kiosk z => exact h
  | exit => exact h

/-- A tap that arrives is resolved at its head. -/
theorem resolves_of_arrives {s u : State} {t : Tap} {e : Enrolment} (h : Arrives s t e)
    (hu : (counted s).resolveTap t e = u) : Resolves s t e u := by
  have hfits := readerFits_of_arrives h
  obtain ⟨halive, hserial, ⟨hd, hhead, honline, rfl⟩, -⟩ := h
  have htaps : (counted s).tapsFrom t.spur t.address = some hd.enrolment := by
    unfold State.tapsFrom
    rw [show (counted s).head? t.spur t.address = some hd from hhead]
    exact if_pos honline
  rw [Resolves, exec_tapRow hfits, State.takeTap, takeItem_of_alive (s := counted s) halive, htaps]
  dsimp only
  rw [if_pos hserial, tapEffect, if_pos rfl, hu]
  rfl

/-- A tap without effect at the head that is there leaves its reply, and nothing else changes. -/
theorem exec_tapRow_of_fixed {s : State} {t : Tap} {e : Enrolment} (hfits : ReaderFits t e)
    (h : ∀ hd, s.head? t.spur t.address = some hd → hd.state = .online →
      tapEffect t e hd.enrolment (counted s) = counted s) :
    exec (tapRow t e) s = .next (handed (counted s) (counted s) t.spur t.address (tapItem t)).arbitrate := by
  rw [exec_tapRow hfits, State.takeTap, takeItem_of_fixed]
  · rfl
  · unfold State.tapsFrom
    cases hhead : (counted s).head? t.spur t.address with
    | none => rfl
    | some hd =>
      by_cases honline : hd.state = .online
      · simp only [if_pos honline, h hd hhead honline, ite_self]
      · simp only [if_neg honline]

/-! ### The watches (R27) -/

/-- A watch fires where its entry fits the tap. -/
theorem fires_iff {s : State} {t : Tap} {e : Enrolment} {p : Bool} {i : Fin 8} {w : Watch} :
    Fires s t e p i w ↔ s.watches[i] = some w ∧ w.fits t.serial (tapLocker t e) p = true := by
  unfold Fires Watch.fits
  rw [Bool.and_eq_true]
  refine and_congr_right fun _ => and_congr_right fun _ => ?_
  cases w.target with
  | band x => simp
  | range f l => simp [Option.any_eq_true]

/-- A HOLD entry fires (R27). -/
theorem holdFires_iff {s : State} {t : Tap} {e : Enrolment} {p : Bool} :
    s.holdFires t.serial (tapLocker t e) p = true ↔ ∃ i w, Fires s t e p i w ∧ w.mode = .hold := by
  simp [State.holdFires, Option.any_eq_true, fires_iff, and_assoc]

/-- The entry of a watch fits a tap. -/
def State.hit (s : State) (t : Tap) (e : Enrolment) (p : Bool) (i : Fin 8) : Bool :=
  (s.watches[i]).any (·.fits t.serial (tapLocker t e) p)

theorem hit_iff {s : State} {t : Tap} {e : Enrolment} {p : Bool} {i : Fin 8} :
    s.hit t e p i = true ↔ ∃ w, Fires s t e p i w := by
  simp [State.hit, Option.any_eq_true, fires_iff]

/-- The notice of a watch that fires (R27, R147). -/
def State.hitNotice (s : State) (t : Tap) (e : Enrolment) (i : Fin 8) : Option Notice :=
  (s.watches[i]).map (fun w => ⟨s.clock.siteMinute, w.subject t.serial (tapLocker t e), .entry i⟩)

/-- The latches once the watch of an entry has fired (R27, R147). -/
def State.hitNoticed (s : State) (t : Tap) (e : Enrolment) (v : Vector Latch 8) (i : Fin 8) : Vector Latch 8 :=
  v.set AlertClass.watchHit.index.val
    ⟨s.hitNotice t e i, ((v[AlertClass.watchHit.index]).sequence + 1) % 8⟩

/-- The state once the watches of a list have fired, one after another. -/
def State.afterHits (s : State) (t : Tap) (e : Enrolment) (hits : List (Fin 8)) : State :=
  { s with
      alerts := hits.foldl (s.hitNoticed t e) s.alerts
      watches := Vector.ofFn (fun i =>
        if i ∈ hits then (s.watches[i]).map (fun w => { w with armed := false }) else s.watches[i]) }

theorem afterHits_nil (s : State) (t : Tap) (e : Enrolment) : s.afterHits t e [] = s := by
  simp [State.afterHits]

theorem afterHits_watches {s : State} {t : Tap} {e : Enrolment} {hits : List (Fin 8)} (i : Fin 8) :
    (s.afterHits t e hits).watches[i] =
      if i ∈ hits then (s.watches[i]).map (fun w => { w with armed := false }) else s.watches[i] := by
  simp [State.afterHits]

/-- The last watch to fire leaves its notice, and each has raised the sequence number. -/
theorem afterHits_alerts (s : State) (t : Tap) (e : Enrolment) (l : List (Fin 8)) (i : Fin 8) :
    (s.afterHits t e (l ++ [i])).alerts = s.alerts.set AlertClass.watchHit.index.val
      ⟨s.hitNotice t e i, ((s.alerts[AlertClass.watchHit.index]).sequence + (l ++ [i]).length) % 8⟩ := by
  have fold : ∀ v : Vector Latch 8, (l ++ [i]).foldl (s.hitNoticed t e) v = v.set AlertClass.watchHit.index.val
      ⟨s.hitNotice t e i, ((v[AlertClass.watchHit.index]).sequence + (l ++ [i]).length) % 8⟩ := by
    induction l with
    | nil => exact fun v => rfl
    | cons j l ih =>
      intro v
      rw [List.cons_append, List.foldl_cons, ih]
      simp [State.hitNoticed, Nat.add_assoc, Nat.add_comm 1]
  exact fold s.alerts

/-- One more watch fires behind others. -/
theorem afterHits_concat {s : State} {t : Tap} {e : Enrolment} {hits : List (Fin 8)} {i : Fin 8} {w : Watch}
    (hs : s.watches[i] = some w) :
    { (s.afterHits t e hits).alert .watchHit (w.subject t.serial (tapLocker t e)) (.entry i) with
        watches := (s.afterHits t e hits).watches.set i.val (some { w with armed := false }) }
      = s.afterHits t e (hits ++ [i]) := by
  have hal : (s.afterHits t e (hits ++ [i])).alerts
      = ((s.afterHits t e hits).alert .watchHit (w.subject t.serial (tapLocker t e)) (.entry i)).alerts := by
    simp [State.afterHits, State.hitNoticed, State.hitNotice, hs, State.alert, State.putLatch, State.latch]
  have hwt : (s.afterHits t e (hits ++ [i])).watches
      = (s.afterHits t e hits).watches.set i.val (some { w with armed := false }) := by
    ext1 j hj
    have hval : ∀ l, (s.afterHits t e l).watches[j] = _ := fun l => afterHits_watches (⟨j, hj⟩ : Fin 8)
    rw [Vector.getElem_set, hval, hval]
    by_cases hij : i = ⟨j, hj⟩
    · subst hij; simp at hs; simp [hs]
    · have : i.val ≠ j := fun h => hij (Fin.ext h)
      simp [this, Ne.symm hij]
  calc
    _ = { s with
          alerts := ((s.afterHits t e hits).alert .watchHit (w.subject t.serial (tapLocker t e)) (.entry i)).alerts
          watches := (s.afterHits t e hits).watches.set i.val (some { w with armed := false }) } := rfl
    _ = s.afterHits t e (hits ++ [i]) := by rw [← hal, ← hwt]; rfl

/-- The firing of an entry on a tap, behind others. -/
theorem fireWatch_afterHits {s : State} {t : Tap} {e : Enrolment} {p : Bool} {hits : List (Fin 8)} {i : Fin 8}
    (hi : i ∉ hits) : State.fireWatch t.serial (tapLocker t e) p (s.afterHits t e hits) i =
      s.afterHits t e (hits ++ if s.hit t e p i then [i] else []) := by
  have hw : (s.afterHits t e hits).watches[i] = s.watches[i] := by rw [afterHits_watches, if_neg hi]
  unfold State.fireWatch State.hit
  rw [hw]
  cases hs : s.watches[i] with
  | none => simp
  | some w =>
    cases hf : w.fits t.serial (tapLocker t e) p with
    | false => simp [hf]
    | true => simpa [hf] using afterHits_concat hs

/-- The watches of a list fire in its order, behind others. -/
theorem foldl_fireWatch_afterHits {s : State} {t : Tap} {e : Enrolment} {p : Bool} {l hits : List (Fin 8)}
    (hl : l.Nodup) (hdisj : ∀ i ∈ l, i ∉ hits) :
    l.foldl (State.fireWatch t.serial (tapLocker t e) p) (s.afterHits t e hits)
      = s.afterHits t e (hits ++ l.filter (s.hit t e p)) := by
  induction l generalizing hits with
  | nil => rw [List.foldl_nil, List.filter_nil, List.append_nil]
  | cons i l ih =>
    obtain ⟨hi, hl⟩ := List.nodup_cons.mp hl
    rw [List.foldl_cons, fireWatch_afterHits (hdisj i List.mem_cons_self)]
    cases hhit : s.hit t e p i with
    | false =>
      rw [if_neg Bool.false_ne_true, List.append_nil, List.filter_cons_of_neg (by rw [hhit]; exact Bool.false_ne_true)]
      exact ih hl fun j hj => hdisj j (List.mem_cons_of_mem i hj)
    | true =>
      have hdisj' : ∀ j ∈ l, j ∉ hits ++ [i] := fun j hj hmem =>
        (List.mem_append.mp hmem).elim (hdisj j (List.mem_cons_of_mem i hj))
          fun hji => hi (List.mem_singleton.mp hji ▸ hj)
      rw [if_pos rfl, ih hl hdisj', List.filter_cons_of_pos hhit, List.append_assoc, List.singleton_append]

theorem foldl_fireWatch {s : State} {t : Tap} {e : Enrolment} {p : Bool} {l : List (Fin 8)} (hl : l.Nodup) :
    l.foldl (State.fireWatch t.serial (tapLocker t e) p) s = s.afterHits t e (l.filter (s.hit t e p)) := by
  have h := foldl_fireWatch_afterHits (s := s) (t := t) (e := e) (p := p) (hits := []) hl fun _ _ => List.not_mem_nil
  rwa [afterHits_nil, List.nil_append] at h

/-- The entries that a tap fires, ascending. -/
def State.tapHits (s : State) (t : Tap) (e : Enrolment) (p : Bool) : List (Fin 8) :=
  (List.finRange 8).filter (s.hit t e p)

theorem mem_tapHits_iff {s : State} {t : Tap} {e : Enrolment} {p : Bool} {i : Fin 8} :
    i ∈ s.tapHits t e p ↔ ∃ w, Fires s t e p i w := by
  simp [State.tapHits, hit_iff]

theorem not_mem_tapHits_iff {s : State} {t : Tap} {e : Enrolment} {p : Bool} {i : Fin 8} :
    i ∉ s.tapHits t e p ↔ ∀ w, ¬Fires s t e p i w := by
  rw [mem_tapHits_iff, not_exists]

theorem nodup_tapHits (s : State) (t : Tap) (e : Enrolment) (p : Bool) : (s.tapHits t e p).Nodup :=
  (List.nodup_finRange 8).filter _

/-- Each entry of the list of those that fire is lower than those behind it. -/
theorem sorted_tapHits (s : State) (t : Tap) (e : Enrolment) (p : Bool) : (s.tapHits t e p).Pairwise (· < ·) :=
  (List.pairwise_lt_finRange 8).filter _

/-- A tap is decided in the state in which its watches have fired. -/
theorem watched_eq (s : State) (t : Tap) (e : Enrolment) (p : Bool) :
    watched s t e p = (counted s).afterHits t e (s.tapHits t e p) :=
  foldl_fireWatch (List.nodup_finRange 8)

section Watched
variable {s : State} {t : Tap} {e : Enrolment} {p : Bool}

/-- No entry fires, or there is a last one. -/
theorem tapHits_nil_or_concat (s : State) (t : Tap) (e : Enrolment) (p : Bool) :
    s.tapHits t e p = [] ∨ ∃ l i, s.tapHits t e p = l ++ [i] := by
  by_cases h : s.tapHits t e p = []
  · exact .inl h
  · exact .inr ⟨_, _, (List.dropLast_concat_getLast h).symm⟩

theorem watched_of_none (h : ∀ i w, ¬Fires s t e p i w) : watched s t e p = counted s := by
  have hnil : s.tapHits t e p = [] := List.eq_nil_iff_forall_not_mem.mpr fun i => not_mem_tapHits_iff.mpr (h i)
  rw [watched_eq, hnil, afterHits_nil]

/-- An entry that fires is disarmed. -/
theorem watched_watches_of_fires {i : Fin 8} {w : Watch} (h : Fires s t e p i w) :
    (watched s t e p).watches[i] = some { w with armed := false } := by
  have hw : (counted s).watches[i] = some w := (fires_iff.mp h).1
  rw [watched_eq, afterHits_watches, if_pos (mem_tapHits_iff.mpr ⟨w, h⟩), hw]
  rfl

/-- An entry that does not fire stays as it is. -/
theorem watched_watches_of_not {i : Fin 8} (h : ∀ w, ¬Fires s t e p i w) :
    (watched s t e p).watches[i] = s.watches[i] := by
  rw [watched_eq, afterHits_watches, if_neg (not_mem_tapHits_iff.mpr h)]
  rfl

/-- The latches behind the last entry to fire. -/
theorem watched_alerts {l : List (Fin 8)} {i : Fin 8} (h : s.tapHits t e p = l ++ [i]) :
    (watched s t e p).alerts = s.alerts.set AlertClass.watchHit.index.val
      ⟨s.hitNotice t e i, ((s.alerts[AlertClass.watchHit.index]).sequence + (s.tapHits t e p).length) % 8⟩ := by
  rw [watched_eq, h]
  exact afterHits_alerts (counted s) t e l i

/-- The watches write the WATCH_HIT latch and the Watch List alone. -/
theorem watched_latch_only : ∃ l ws, watched s t e p
    = { counted s with alerts := s.alerts.set AlertClass.watchHit.index.val l, watches := ws } := by
  have frame : watched s t e p
      = { counted s with alerts := (watched s t e p).alerts, watches := (watched s t e p).watches } := by
    rw [watched_eq]
    rfl
  rcases tapHits_nil_or_concat s t e p with hnil | ⟨l, i, hl⟩
  · refine ⟨s.alerts[AlertClass.watchHit.index.val], s.watches, ?_⟩
    rw [watched_eq, hnil, afterHits_nil, Vector.set_getElem_self]
    rfl
  · rw [watched_alerts hl] at frame
    exact ⟨_, _, frame⟩

/-- Each entry that fires raises the sequence number by 1 modulo 8. -/
theorem watched_sequence {fired : List (Fin 8)} (hne : fired ≠ []) (hnd : fired.Nodup)
    (hmem : ∀ i, i ∈ fired ↔ ∃ w, Fires s t e p i w) :
    ((watched s t e p).alerts[AlertClass.watchHit.index]).sequence
      = ((s.alerts[AlertClass.watchHit.index]).sequence + fired.length) % 8 := by
  have hperm : fired.Perm (s.tapHits t e p) :=
    (List.perm_ext_iff_of_nodup hnd (nodup_tapHits s t e p)).mpr fun i => (hmem i).trans mem_tapHits_iff.symm
  rcases tapHits_nil_or_concat s t e p with hnil | ⟨l, i, hl⟩
  · exact absurd (List.perm_nil.mp (hnil ▸ hperm)) hne
  · simp [watched_alerts hl, hperm.length_eq]

/-- The notice of the last entry to fire stands. -/
theorem watched_notice {i : Fin 8} {w : Watch} (h : Fires s t e p i w)
    (hlast : ∀ j, i < j → ∀ v, ¬Fires s t e p j v) :
    ((watched s t e p).alerts[AlertClass.watchHit.index]).notice
      = some ⟨s.clock.siteMinute, w.subject t.serial (tapLocker t e), .entry i⟩ := by
  have hi : i ∈ s.tapHits t e p := mem_tapHits_iff.mpr ⟨w, h⟩
  rcases tapHits_nil_or_concat s t e p with hnil | ⟨l, j, hl⟩
  · simp [hnil] at hi
  · have hsorted := hl ▸ sorted_tapHits s t e p
    have hj : ∃ v, Fires s t e p j v := mem_tapHits_iff.mp (by simp [hl])
    obtain rfl : i = j := by
      rcases List.mem_append.mp (hl ▸ hi) with hil | hij
      · have hlt : i < j := (List.pairwise_append.mp hsorted).2.2 i hil j (by simp)
        obtain ⟨v, hv⟩ := hj
        exact absurd hv (hlast j hlt v)
      · exact List.mem_singleton.mp hij
    have hw : s.watches[i] = some w := (fires_iff.mp h).1
    rw [watched_alerts hl]
    simp only [Fin.getElem_fin, Vector.getElem_set_self, State.hitNotice]
    rw [show s.watches[i.val] = some w from hw]
    rfl

end Watched

/-! ### The common front (R25 to R29) -/

/-- The day state shuts a tap out: the day is CLOSED, or CLOSING and the tap is neither at an EXIT head nor of a present
band of a staff class (R25). -/
def Shut (s : State) (t : Tap) (e : Enrolment) : Prop :=
  s.clock.day = .closed ∨ s.clock.day = .closing ∧ e ≠ .exit
    ∧ ∀ k b, s.findBand t.serial = some (k, b) → (s.classes[b.cls]).staff = false

theorem type_eq_exit_iff {e : Enrolment} : e.type = .exit ↔ e = .exit := by
  cases e <;> simp [Enrolment.type]

theorem shutOut_iff {s : State} {t : Tap} {e : Enrolment} :
    s.shutOut e.type ((s.findBand t.serial).any (fun x => (s.classOf x.2).staff)) = true ↔ Shut s t e := by
  unfold State.shutOut Shut
  cases hd : s.clock.day with
  | opened => simp
  | closed => simp
  | closing =>
    cases hf : s.findBand t.serial with
    | none => simp [type_eq_exit_iff]
    | some x =>
      obtain ⟨slot, b⟩ := x
      simp [type_eq_exit_iff, State.classOf]

section Front
variable {s : State} {t : Tap} {e : Enrolment}

theorem front_of_shut (h : Shut s t e) :
    (counted s).front t e.type (tapLocker t e) = .ended (shown (counted s) t (.red .closed 0)) :=
  if_pos (shutOut_iff.mpr h)

/-- A HOLD entry that fires answers RED STAFF (R27). -/
theorem front_of_hold (h : ¬Shut s t e)
    (hh : ∃ i w, Fires s t e (s.findBand t.serial).isSome i w ∧ w.mode = .hold) :
    (counted s).front t e.type (tapLocker t e)
      = .ended (shown (watched s t e (s.findBand t.serial).isSome) t (.red .staff 0)) :=
  (if_neg (mt shutOut_iff.mp h)).trans (if_pos (holdFires_iff.mpr hh))

/-- A band that is not present answers RED UNKNOWN_BAND (R26). -/
theorem front_of_absent (h : ¬Shut s t e) (hh : ¬∃ i w, Fires s t e false i w ∧ w.mode = .hold)
    (hf : s.findBand t.serial = none) : (counted s).front t e.type (tapLocker t e)
      = .ended (shown (watched s t e false) t (.red .unknownBand 0)) := by
  have hfound : (counted s).findBand t.serial = none := hf
  have hhold : ¬(counted s).holdFires t.serial (tapLocker t e) false = true := mt holdFires_iff.mp hh
  refine (if_neg (mt shutOut_iff.mp h)).trans ?_
  rw [hfound]
  exact if_neg hhold

/-- A present band goes by barring and evacuation (R28, R29). -/
theorem front_of_present (h : ¬Shut s t e) (hh : ¬∃ i w, Fires s t e true i w ∧ w.mode = .hold)
    {slot : Nat} {b : Band} (hf : s.findBand t.serial = some (slot, b)) :
    (counted s).front t e.type (tapLocker t e) =
      if b.state = .barred ∧ e.type ≠ .exit then .ended (shown (watched s t e true) t (.red .barred 0))
      else if s.clock.evacuation = true ∧ (e.type = .kiosk ∨ e.type = .cabin) then
        .ended (shown (watched s t e true) t (.red .evacuation 0))
      else .passed (watched s t e true) slot b := by
  have hfound : (counted s).findBand t.serial = some (slot, b) := hf
  have hhold : ¬(counted s).holdFires t.serial (tapLocker t e) true = true := mt holdFires_iff.mp hh
  refine (if_neg (mt shutOut_iff.mp h)).trans ?_
  rw [hfound]
  exact if_neg hhold

/-- A tap that passes the common front is decided behind its watches. -/
theorem front_of_passes {slot : Nat} {b : Band} (h : Passes s t e slot b) :
    (counted s).front t e.type (tapLocker t e) = .passed (watched s t e true) slot b := by
  obtain ⟨-, ⟨-, hf⟩, hday, hhold, hbarred, hevac⟩ := h
  have hshut : ¬Shut s t e := by
    rintro (hc | ⟨hc, hne, hstaff⟩)
    · simp [hc] at hday
    · have hs : (s.classOf b).staff = false := hstaff slot b hf
      simp [hc, hne, hs] at hday
  have hh : ¬∃ i w, Fires s t e true i w ∧ w.mode = .hold := fun hh => by
    simp [holdFires_iff.mpr hh] at hhold
  rw [front_of_present hshut hh hf, if_neg, if_neg]
  · rintro ⟨hon, hty⟩
    rcases hevac hon with h | h <;> simp [h] at hty
  · rintro ⟨hb, hne⟩
    exact hbarred.elim (absurd hb) fun he => hne (type_eq_exit_iff.mpr he)

end Front

/-! ### The front at each head -/

/-- The locker a tap at a LOCK head names. -/
def Tap.locker (t : Tap) : Fin 1024 := lockerAt t.spur t.address t.reader

section TapLock
variable {s : State} {t : Tap}

theorem tapLock_of_absent (h : s.locker? t.locker = none) : s.tapLock t = s := by
  rw [Tap.locker] at h
  simp only [State.tapLock, h]

theorem tapLock_of_ended {l : Locker} {u : State} (h : s.locker? t.locker = some l)
    (hf : s.front t .lock (some t.locker) = .ended u) : s.tapLock t = u := by
  rw [Tap.locker] at h hf
  simp only [State.tapLock, h, hf]

theorem tapLock_of_passed {l : Locker} {u : State} {slot : Nat} {b : Band} (h : s.locker? t.locker = some l)
    (hf : s.front t .lock (some t.locker) = .passed u slot b) : s.tapLock t = u.decideLocker t t.locker l slot b := by
  rw [Tap.locker] at h hf
  simp only [State.tapLock, h, hf]
  rfl

end TapLock

/-- A tap that the front ends is resolved by it, at whatever head. -/
theorem resolves_of_ended {s u : State} {t : Tap} {e : Enrolment} (h : Arrives s t e)
    (hf : (counted s).front t e.type (tapLocker t e) = .ended u) : Resolves s t e u := by
  refine resolves_of_arrives h ?_
  obtain ⟨-, -, -, hdoor⟩ := h
  cases e with
  | lock k =>
    obtain ⟨l, hl⟩ := Option.isSome_iff_exists.mp hdoor
    exact tapLock_of_ended (s := counted s) hl hf
  | cabin n =>
    obtain ⟨-, hc⟩ := hdoor
    obtain ⟨c, hc⟩ := Option.isSome_iff_exists.mp hc
    have hc' : (counted s).cabin? n = some c := hc
    have hf' : (counted s).front t .cabin none = .ended u := hf
    simp only [State.resolveTap, State.tapOutside, State.tapInside, hc', hf', ite_self]
  | kiosk z =>
    have hf' : (counted s).front t .kiosk none = .ended u := hf
    simp only [State.resolveTap, State.tapKiosk, hf']
  | exit =>
    have hf' : (counted s).front t .exit none = .ended u := hf
    simp only [State.resolveTap, State.tapExit, hf']

end Sys2Proof.Machine

namespace Sys2Proof.Proofs
open Sys2Proof Sys2Proof.Machine Sys2Proof.Claims

/-- Settles O47: each way the common front ends a tap, and what the watches it fires leave. -/
theorem frontAnswers : Obligations.FrontAnswers := by
  intro s t e
  refine ⟨fun hfits h => exec_tapRow_of_fixed hfits fun hd hhead honline => if_neg fun htype => ?_, ?_, ?_, ?_⟩
  · exact (h hd hhead).elim (absurd honline) (absurd htype)
  · rintro k rfl habsent
    refine exec_tapRow_of_fixed trivial fun hd _ _ => ?_
    cases hd.enrolment with
    | lock => exact tapLock_of_absent (s := counted s) habsent
    | cabin | kiosk | exit => rfl
  · intro harr
    refine ⟨fun hshut => resolves_of_ended harr (front_of_shut hshut),
      fun hshut hh => resolves_of_ended harr (front_of_hold hshut hh), fun hshut hh hf => ?_,
      fun hshut hh slot b hf => ?_⟩
    · have hp : (s.findBand t.serial).isSome = false := by rw [hf]; rfl
      rw [hp] at hh ⊢
      exact resolves_of_ended harr (front_of_absent hshut hh hf)
    · have hp : (s.findBand t.serial).isSome = true := by rw [hf]; rfl
      rw [hp] at hh ⊢
      have hfront := front_of_present hshut hh hf
      refine ⟨fun hb he => ?_, fun hb hon hty => ?_⟩
      · exact resolves_of_ended harr (hfront.trans (if_pos ⟨hb, mt type_eq_exit_iff.mp he⟩))
      · exact resolves_of_ended harr
          (hfront.trans ((if_neg fun h => hb h.1).trans (if_pos ⟨hon, hty⟩)))
  · intro p
    refine ⟨watched_of_none, watched_latch_only, fun _ => watched_sequence, fun _ _ => watched_watches_of_fires,
      fun _ => watched_watches_of_not, fun i w h hlast => (watched_notice h hlast).trans ?_⟩
    obtain ⟨target, mode, armed⟩ := w
    cases target <;> cases tapLocker t e <;> rfl

end Sys2Proof.Proofs

/-! ## Taps at locker doors (R32 to R45) -/

namespace Sys2Proof.Machine
open Sys2Proof.Claims

/-! ### What the watches leave to the decision -/

section Watched
variable (s : State) (t : Tap) (e : Enrolment) (p : Bool)

/-- What does not read the latches or the Watch List is unchanged by the watches. -/
theorem watched_keeps {α : Type} {f : State → α} (hf : ∀ u a v, f { u with alerts := a, watches := v } = f u) :
    f (watched s t e p) = f (counted s) := by
  obtain ⟨a, v, h⟩ := (counted s).fireWatches_only t.serial (tapLocker t e) p
  rw [watched, h, hf]

@[simp] theorem watched_visit : (watched s t e p).visit = s.visit :=
  watched_keeps s t e p (f := State.visit) fun _ _ _ => rfl

@[simp] theorem watched_lockers : (watched s t e p).lockers = s.lockers :=
  watched_keeps s t e p (f := State.lockers) fun _ _ _ => rfl

@[simp] theorem watched_zones : (watched s t e p).zones = s.zones :=
  watched_keeps s t e p (f := State.zones) fun _ _ _ => rfl

@[simp] theorem watched_classes : (watched s t e p).classes = s.classes :=
  watched_keeps s t e p (f := State.classes) fun _ _ _ => rfl

@[simp] theorem watched_queue : (watched s t e p).queue = s.queue :=
  watched_keeps s t e p (f := State.queue) fun _ _ _ => rfl

@[simp] theorem watched_clock : (watched s t e p).clock = s.clock :=
  watched_keeps s t e p (f := State.clock) fun _ _ _ => rfl

@[simp] theorem watched_band? (slot : Nat) : (watched s t e p).band? slot = s.band? slot :=
  congrArg (Table.get? slot) (watched_visit s t e p)

@[simp] theorem watched_locker? (n : Fin 1024) : (watched s t e p).locker? n = s.locker? n :=
  congrArg (Table.get? n.val) (watched_lockers s t e p)

@[simp] theorem watched_findBand (x : Serial) : (watched s t e p).findBand x = s.findBand x := by
  unfold State.findBand
  rw [watched_visit]

theorem mate_watched (b : Band) (l : Locker) : Mate (watched s t e p) b l ↔ Mate s b l := by
  simp only [Mate, watched_classes, watched_findBand]

end Watched

/-! ### The requests to the Record Queue (R142) -/

theorem reserve?_of_full {s : State} (h : 128 ≤ s.queue.sum) : s.reserve? = none :=
  if_neg (Nat.not_lt.mpr h)

theorem reserve?_of_room {s : State} (h : ¬128 ≤ s.queue.sum) : s.reserve? = some (reserved s) :=
  if_pos (Nat.not_le.mp h)

theorem write?_of_full {s : State} {b : RecordBody} (h : 128 ≤ s.queue.sum) : s.write? b = none :=
  if_neg (Nat.not_lt.mpr h)

theorem write?_of_room {s : State} {b : RecordBody} (h : ¬128 ≤ s.queue.sum) : s.write? b = some (written s b) :=
  if_pos (Nat.not_le.mp h)

section Decision
variable {s : State} {t : Tap} {n : Fin 1024} {l : Locker} {slot : Nat} {b : Band}

/-! ### Grants and denials (R10, R23) -/

theorem green_of_band (hb : s.band? slot = some b) : s.green t slot = given s t slot b := by
  rw [State.green, State.grant, State.modBand_of s hb]
  rfl

/-- A grant behind the changes of a record and of a locker. -/
theorem green_putLocker_putBand : ((s.putBand slot b).putLocker n l).green t slot = given (withLocker s n l) t slot b := by
  rw [green_of_band (s := (s.putBand slot b).putLocker n l) (State.band?_putBand_self s slot b)]
  simp [given, withBand, withLocker, State.putBand, State.putLocker]

theorem denyHolder_of_band (hb : s.band? slot = some b) : s.denyHolder t slot = denied s t slot b := by
  unfold State.denyHolder State.strike denied
  rw [hb]
  dsimp only
  rw [State.modBand_of s hb, apply_ite (fun u : State => u.red t .notHolder)]
  rfl

/-! ### The relation of a band to a holder (R33) -/

theorem mate_iff : Mate s b l ↔ b.group ≠ 0 ∧ (s.classOf b).share = true
    ∧ (l.holder.bind s.findBand).any (fun e => e.2.group == b.group) = true := by
  unfold Mate
  refine and_congr_right fun _ => and_congr_right fun _ => ?_
  cases hh : l.holder with
  | none => simp
  | some x => simp [Option.any_eq_true]

theorem relation_of_holds (h : l.holder = some b.serial) : s.relation b l = .holder := if_pos h

theorem relation_of_mate (h : l.holder ≠ some b.serial) (hm : Mate s b l) : s.relation b l = .mate :=
  (if_neg h).trans (if_pos (mate_iff.mp hm))

theorem relation_of_staff (h : l.holder ≠ some b.serial) (hm : ¬Mate s b l) (hs : (s.classOf b).staff = true) :
    s.relation b l = .staff :=
  (if_neg h).trans ((if_neg (mt mate_iff.mpr hm)).trans (if_pos hs))

theorem relation_of_other (h : l.holder ≠ some b.serial) (hm : ¬Mate s b l) (hs : ¬(s.classOf b).staff = true) :
    s.relation b l = .other :=
  (if_neg h).trans ((if_neg (mt mate_iff.mpr hm)).trans (if_neg hs))

theorem relation_ne_holder (h : l.holder ≠ some b.serial) : s.relation b l ≠ .holder := by
  unfold State.relation
  rw [if_neg h]
  split
  · simp
  · split <;> simp

/-- A band that is the holder, a mate or staff is not another. -/
theorem relation_ne_other (h : ¬(l.holder ≠ some b.serial ∧ ¬Mate s b l ∧ ¬(s.classOf b).staff = true)) :
    s.relation b l ≠ .other := by
  by_cases hh : l.holder = some b.serial
  · simp [relation_of_holds hh]
  · by_cases hm : Mate s b l
    · simp [relation_of_mate hh hm]
    · have hs : (s.classOf b).staff = true := Decidable.byContradiction fun hs => h ⟨hh, hm, hs⟩
      simp [relation_of_staff hh hm hs]

/-! ### A movement (R30, R35, R39, R40) -/

/-- A movement asks for one place, and waits where there is none. -/
theorem startAtLocker_eq (hb : s.band? slot = some b) (d : Direction) (p : Purpose) :
    s.startAtLocker t n l slot b d p =
      if 128 ≤ s.queue.sum then shown s t .amber
      else (given (reserved s) t slot b).handOver (.locker n) d p l.holder
        (if l.holder = some b.serial then none else some b.serial) true := by
  have hgreen : (reserved s).green t slot = given (reserved s) t slot b := green_of_band (s := reserved s) hb
  split
  · next h => simp only [State.startAtLocker, reserve?_of_full h]; rfl
  · next h => simp only [State.startAtLocker, reserve?_of_room h, hgreen, requesterFor]

/-! ### Claims (R36 to R38) -/

/-- The claim of a VACANT locker (R5, R37): its holder named, the bolt to be thrown. -/
theorem acquire_green (hb : s.band? slot = some b) (hl : s.locker? n = some l) (hlen : b.holdings.length < 2) :
    (s.acquire slot b n).green t slot
      = given (withLocker s n { l with holder := some b.serial }) t slot { b with holdings := b.holdings ++ [n] } := by
  have hacq : s.acquire slot b n = (s.putBand slot { b with holdings := b.holdings ++ [n] }).putLocker n
      { l with holder := some b.serial } := by
    rw [State.acquire, if_pos hlen, State.modBand_of s hb]
    exact State.modLocker_of (s.putBand slot _) hl _
  rw [hacq, green_putLocker_putBand]

/-- The claim checks in their order, each with what follows from its reason (R36). -/
theorem claimRefusal_elim {α : Type} (s : State) (z : Zone) (b : Band) (u : α) (f : RedReason → α) :
    (s.claimRefusal z b).elim u f =
      if s.clock.evacuation = true then f .evacuation
      else if z.intake = 0 ∨ z.intake = 1 ∧ (s.classes[b.cls]).staff = false then f .zoneShut
      else if z.intake = 2 then f .useKiosk
      else if z.classMask.getLsbD b.cls.val = false then f .classExcluded
      else if min 2 (max 1 (s.classes[b.cls]).holdLimit) ≤ b.holdings.length then f .limit
      else u := by
  unfold State.claimRefusal
  simp only [apply_ite (Option.elim · u f)]
  rfl

/-- Behind a SHUT door the claim checks decide, then the place (R36, R37). -/
theorem tapVacant_of_shut (hd : l.door = .shut) : s.tapVacant t n l slot b =
    (s.claimRefusal s.zones[l.zone] b).elim
      (s.reserve?.elim (s.wait t) fun u =>
        ((u.acquire slot b n).green t slot).handOver (.locker n) .throw .claim (some b.serial) none true)
      (s.red t) := by
  unfold State.tapVacant
  rw [hd]
  cases s.claimRefusal s.zones[l.zone] b with
  | some r => rfl
  | none => cases s.reserve? <;> rfl

/-- A tap at a VACANT locker: the door, the claim checks, the place (R36, R37). -/
theorem tapVacant_eq (hb : s.band? slot = some b) (hl : s.locker? n = some l) : s.tapVacant t n l slot b =
    if l.door = .opened then shown s t (.red .doorOpen 0)
    else if l.door = .unknown then shown s t .amber
    else if s.clock.evacuation = true then shown s t (.red .evacuation 0)
    else if (s.zones[l.zone]).intake = 0 ∨ (s.zones[l.zone]).intake = 1 ∧ (s.classes[b.cls]).staff = false
      then shown s t (.red .zoneShut 0)
    else if (s.zones[l.zone]).intake = 2 then shown s t (.red .useKiosk 0)
    else if (s.zones[l.zone]).classMask.getLsbD b.cls.val = false then shown s t (.red .classExcluded 0)
    else if min 2 (max 1 (s.classes[b.cls]).holdLimit) ≤ b.holdings.length then shown s t (.red .limit 0)
    else if 128 ≤ s.queue.sum then shown s t .amber
    else (given (withLocker (reserved s) n { l with holder := some b.serial }) t slot
      { b with holdings := b.holdings ++ [n] }).handOver (.locker n) .throw .claim (some b.serial) none true := by
  obtain hd | hd | hd : l.door = .opened ∨ l.door = .unknown ∨ l.door = .shut := by cases l.door <;> simp
  · rw [State.tapVacant, hd]
    rfl
  · rw [State.tapVacant, hd]
    rfl
  · rw [tapVacant_of_shut hd, claimRefusal_elim, if_neg (show ¬l.door = .opened by simp [hd]),
      if_neg (show ¬l.door = .unknown by simp [hd])]
    refine ite_congr rfl (fun _ => rfl) fun _ => ite_congr rfl (fun _ => rfl) fun _ => ite_congr rfl (fun _ => rfl)
      fun _ => ite_congr rfl (fun _ => rfl) fun _ => ite_congr rfl (fun _ => rfl) fun hlimit => ?_
    split
    · next hfull =>
      rw [reserve?_of_full hfull]
      rfl
    · next hfull =>
      have hlen : b.holdings.length < 2 := by omega
      rw [reserve?_of_room hfull]
      exact congrArg (State.handOver · (.locker n) .throw .claim (some b.serial) none true)
        (acquire_green (s := reserved s) hb hl hlen)

/-- A tap at a RESERVED locker: its holder alone claims it, with no evacuation and the door SHUT (R38, R44). -/
theorem tapReserved_eq (hb : s.band? slot = some b) (hl : s.locker? n = some l) : s.tapReserved t n l slot b =
    if l.holder ≠ some b.serial then denied s t slot b
    else if s.clock.evacuation = true then shown s t (.red .evacuation 0)
    else if l.door ≠ .shut then shown s t (.red .doorOpen 0)
    else (given (withLocker s n { l with reserveDeadline := none }) t slot b).handOver (.locker n) .throw .claim
      (some b.serial) none true := by
  have hgreen : (s.modLocker n (fun l => { l with reserveDeadline := none })).green t slot
      = given (withLocker s n { l with reserveDeadline := none }) t slot b := by
    rw [State.modLocker_of s hl]
    exact green_of_band (s := s.putLocker n _) hb
  unfold State.tapReserved
  rw [denyHolder_of_band hb, hgreen]
  split
  · rfl
  · next hh => rw [Decidable.not_not.mp hh]; rfl

/-! ### LOCKED and RELEASED (R39 to R41) -/

theorem tapLocked_of_opening (h : l.holder = some b.serial ∨ Mate s b l) :
    s.tapLocked t n l slot b = s.startAtLocker t n l slot b .retract .opening := by
  unfold State.tapLocked
  by_cases hh : l.holder = some b.serial
  · rw [relation_of_holds hh]
  · rw [relation_of_mate hh (h.resolve_left hh)]

theorem tapLocked_of_staff (h : s.relation b l = .staff) :
    s.tapLocked t n l slot b = s.startAtLocker t n l slot b .retract .staffOpen := by
  rw [State.tapLocked, h]

theorem tapLocked_of_other (h : s.relation b l = .other) : s.tapLocked t n l slot b = s.denyHolder t slot := by
  rw [State.tapLocked, h]

theorem tapReleased_of_other (h : s.relation b l = .other) : s.tapReleased t n l slot b = s.denyHolder t slot := by
  rw [State.tapReleased, h]

theorem tapReleased_of_shut (h : s.relation b l ≠ .other) (hd : l.door = .shut) :
    s.tapReleased t n l slot b = s.startAtLocker t n l slot b .throw .relock := by
  unfold State.tapReleased
  rw [hd]
  cases hr : s.relation b l with
  | other => exact absurd hr h
  | holder | mate | staff => rfl

theorem tapReleased_of_unknown (h : s.relation b l ≠ .other) (hd : l.door = .unknown) :
    s.tapReleased t n l slot b = s.wait t := by
  unfold State.tapReleased
  rw [hd]
  cases hr : s.relation b l with
  | other => exact absurd hr h
  | holder | mate | staff => rfl

/-- An open locker is not given up by a band that does not hold it. -/
theorem tapReleased_of_opened (h : s.relation b l ≠ .other) (hh : s.relation b l ≠ .holder) (hd : l.door = .opened) :
    s.tapReleased t n l slot b = s.red t .doorOpen := by
  unfold State.tapReleased
  rw [hd]
  cases hr : s.relation b l with
  | other => exact absurd hr h
  | holder => exact absurd hr hh
  | mate | staff => rfl

theorem tapReleased_of_giveUp (h : s.relation b l = .holder) (hd : l.door = .opened) :
    s.tapReleased t n l slot b = s.giveUp t n slot b := by
  rw [State.tapReleased, h, hd]

/-- The release of a locker by the band that holds it (R5). -/
theorem releaseLocker_of_holder (hp : Present s b.serial slot b) (hl : s.locker? n = some l)
    (hh : l.holder = some b.serial) : s.releaseLocker n =
      (s.putBand slot { b with holdings := b.holdings.erase n }).putLocker n { l with holder := none } := by
  have hmod : s.modSerial l.holder (fun b => { b with holdings := b.holdings.erase n })
      = s.putBand slot { b with holdings := b.holdings.erase n } := by
    simp only [State.modSerial, hh, hp.2]
    exact State.modBand_of s (band?_of_present hp) _
  rw [State.releaseLocker, hl]
  dsimp only
  rw [hmod]
  exact State.modLocker_of (s.putBand slot _) hl _

/-- The holder of an open locker gives it up, if its record has a place (R41). -/
theorem giveUp_eq (hp : Present s b.serial slot b) (hl : s.locker? n = some l) (hh : l.holder = some b.serial) :
    s.giveUp t n slot b =
      if 128 ≤ s.queue.sum then shown s t .amber
      else given (withLocker (written s (.giveUp n b.serial)) n { l with state := .vacant, holder := none }) t slot
        { b with holdings := b.holdings.erase n } := by
  split
  · next h => simp only [State.giveUp, write?_of_full h]; rfl
  · next h =>
    have hrel := releaseLocker_of_holder (s := written s (.giveUp n b.serial)) hp hl hh
    simp only [State.giveUp, write?_of_room h]
    rw [hrel, State.modLocker_of _ (State.locker?_putLocker_self ..), State.putLocker_putLocker, green_putLocker_putBand]

/-! ### Lockers only staff may open (R35, R42, R43) -/

theorem tapStaffOnly_of_staff {r : RedReason} (h : (s.classOf b).staff = true) :
    s.tapStaffOnly t n l slot b r = s.startAtLocker t n l slot b .retract .staffOpen := if_pos h

theorem tapStaffOnly_of_not {r : RedReason} (h : ¬(s.classOf b).staff = true) :
    s.tapStaffOnly t n l slot b r = s.red t r := if_neg h

/-! ### The decision by the locker's state (R34, R35) -/

theorem decideLocker_of_wait (h : l.state = .verify ∨ l.action ≠ none) : s.decideLocker t n l slot b = s.wait t :=
  if_pos (h.imp_right Option.isSome_iff_ne_none.mpr)

/-- With no action in flight and outside VERIFY the locker's state decides. -/
theorem decideLocker_of_rest (ha : l.action = none) :
    (l.state = .vacant → s.decideLocker t n l slot b = s.tapVacant t n l slot b)
    ∧ (l.state = .reserved → s.decideLocker t n l slot b = s.tapReserved t n l slot b)
    ∧ (l.state = .locked → s.decideLocker t n l slot b = s.tapLocked t n l slot b)
    ∧ (l.state = .released → s.decideLocker t n l slot b = s.tapReleased t n l slot b)
    ∧ (l.state = .inspect ∨ l.state = .jammed ∨ l.state = .outOfService → s.decideLocker t n l slot b
      = s.tapStaffOnly t n l slot b (if l.state = .inspect then .inspect else .outOfService)) := by
  unfold State.decideLocker
  rw [ha]
  cases l.state <;> simp

end Decision

theorem arrives_of_passes {s : State} {t : Tap} {e : Enrolment} {slot : Nat} {b : Band} (h : Passes s t e slot b) :
    Arrives s t e := h.1

theorem present_of_passes {s : State} {t : Tap} {e : Enrolment} {slot : Nat} {b : Band} (h : Passes s t e slot b) :
    Present s t.serial slot b := h.2.1

/-- A tap that passes the front at a LOCK head is resolved by the locker decision. -/
theorem resolves_decideLocker {s : State} {t : Tap} {k slot : Nat} {b : Band} {l : Locker}
    (h : Passes s t (.lock k) slot b) (hl : s.locker? (lockerAt t.spur t.address t.reader) = some l) :
    Resolves s t (.lock k)
      ((watched s t (.lock k) true).decideLocker t (lockerAt t.spur t.address t.reader) l slot b) :=
  resolves_of_arrives (arrives_of_passes h) (tapLock_of_passed (s := counted s) hl (front_of_passes h))

end Sys2Proof.Machine

namespace Sys2Proof.Proofs
open Sys2Proof Sys2Proof.Machine Sys2Proof.Claims

/-- Settles O48: the checks of a claim in their order, at a VACANT and at a RESERVED locker. -/
theorem claimTapResult : Obligations.ClaimTapResult := by
  intro s t k slot b l hp n w z hl ha
  have hb : w.band? slot = some b := (watched_band? ..).trans (band?_of_present (present_of_passes hp))
  have hwl : w.locker? n = some l := (watched_locker? ..).trans hl
  have base : Resolves s t (.lock k) (w.decideLocker t n l slot b) := resolves_decideLocker hp hl
  obtain ⟨hvacant, hreserved, -⟩ := decideLocker_of_rest (s := w) (t := t) (n := n) (slot := slot) (b := b) ha
  refine ⟨fun hs => ?_, fun hs => ?_⟩
  · rw [hvacant hs, tapVacant_eq hb hwl] at base
    simpa only [Shows, w, z, apply_ite (Resolves s t (.lock k)), watched_clock, watched_zones, watched_classes, watched_queue]
      using base
  · rw [hreserved hs, tapReserved_eq hb hwl] at base
    simpa only [Shows, w, apply_ite (Resolves s t (.lock k)), watched_clock] using base

/-- Settles O49: each state of a locker that is not claimed, by the relation of the band to the holder. -/
theorem lockerTapResult : Obligations.LockerTapResult := by
  intro s t k slot b l hp n w holds staff other moves hl
  have hpresent := present_of_passes hp
  have hb : w.band? slot = some b := (watched_band? ..).trans (band?_of_present hpresent)
  have hwl : w.locker? n = some l := (watched_locker? ..).trans hl
  have hmate : Mate w b l ↔ Mate s b l := mate_watched ..
  have hstaff : (w.classOf b).staff = true ↔ staff := by simp only [State.classOf, w, watched_classes, staff]
  have hother : other → w.relation b l = .other := fun ⟨hh, hm, hs⟩ =>
    relation_of_other hh (mt hmate.mp hm) (mt hstaff.mp hs)
  have hnot : ¬other → w.relation b l ≠ .other := fun h => relation_ne_other (by rwa [hmate, hstaff])
  have start : ∀ d p, Resolves s t (.lock k) (w.startAtLocker t n l slot b d p) → moves d p := by
    intro d p h
    rw [startAtLocker_eq hb] at h
    simpa only [moves, Shows, w, apply_ite (Resolves s t (.lock k)), watched_queue] using h
  have base : Resolves s t (.lock k) (w.decideLocker t n l slot b) := resolves_decideLocker hp hl
  refine ⟨fun hwait => ?_, fun ha => ?_⟩
  · rw [decideLocker_of_wait hwait] at base
    exact base
  obtain ⟨-, -, hlocked, hreleased, hstaffOnly⟩ :=
    decideLocker_of_rest (s := w) (t := t) (n := n) (slot := slot) (b := b) ha
  refine ⟨fun hs => ?_, fun hs => ?_, fun hs => ?_⟩
  · rw [hlocked hs] at base
    refine ⟨fun h => ?_, fun hh hm hst => ?_, fun h => ?_⟩
    · rw [tapLocked_of_opening (h.imp_right hmate.mpr)] at base
      exact start _ _ base
    · rw [tapLocked_of_staff (relation_of_staff hh (mt hmate.mp hm) (hstaff.mpr hst))] at base
      exact start _ _ base
    · rw [tapLocked_of_other (hother h), denyHolder_of_band hb] at base
      exact base
  · rw [hreleased hs] at base
    refine ⟨fun h => ?_, fun h hd => ?_, fun h hd => ?_, fun h hh hd => ?_, fun hh hd => ?_⟩
    · rw [tapReleased_of_other (hother h), denyHolder_of_band hb] at base
      exact base
    · rw [tapReleased_of_shut (hnot h) hd] at base
      exact start _ _ base
    · rw [tapReleased_of_unknown (hnot h) hd] at base
      exact base
    · rw [tapReleased_of_opened (hnot h) (relation_ne_holder hh) hd] at base
      exact base
    · have hserial : b.serial = t.serial := (mem_of_findBand hpresent.2).2
      have hpw : Present w b.serial slot b := by
        rw [hserial, Present, watched_visit, watched_findBand]
        exact hpresent
      rw [tapReleased_of_giveUp (relation_of_holds hh) hd, giveUp_eq hpw hwl hh] at base
      simpa only [Shows, w, apply_ite (Resolves s t (.lock k)), watched_queue] using base
  · rw [hstaffOnly hs] at base
    refine ⟨fun h => ?_, fun h => ?_⟩
    · rw [tapStaffOnly_of_staff (hstaff.mpr h)] at base
      exact start _ _ base
    · rw [tapStaffOnly_of_not (mt hstaff.mp h)] at base
      exact base

end Sys2Proof.Proofs

/-! ## Numbers listed in a sparse table -/

namespace Sys2Proof.Machine

theorem below_eq_some_iff {m k : Nat} {i : Fin m} : below m k = some i ↔ k = i.val := by
  unfold below
  split
  · simp [Fin.ext_iff]
  · next h => exact iff_of_false (by simp) (by have := i.isLt; omega)

namespace Table

variable {α β : Type} {m : Nat} {t : List (Nat × α)}

/-- A read after a change of the values alone. -/
theorem get?_map (k : Nat) (g : Nat → α → β) (t : List (Nat × α)) :
    get? k (t.map (fun e => (e.1, g e.1 e.2))) = (get? k t).map (g k) := by
  induction t with
  | nil => rfl
  | cons e rest ih =>
    obtain ⟨j, y⟩ := e
    by_cases hj : j = k
    · subst hj; simp [get?]
    · simpa [get?, hj] using ih

/-- The keys of a table that are numbers below a bound. -/
theorem mem_keysBelow_iff {n : Fin m} : n ∈ t.filterMap (fun e => below m e.1) ↔ ∃ x, (n.val, x) ∈ t := by
  simp [below_eq_some_iff]

theorem mem_keysBelow_of_get? {n : Fin m} {x : α} (h : get? n.val t = some x) :
    n ∈ t.filterMap (fun e => below m e.1) := mem_keysBelow_iff.mpr ⟨x, mem_of_get? h⟩

/-- In the canonical form the numbers listed are those a read finds. -/
theorem mem_keysBelow_iff_isSome (hw : wf t = true) {n : Fin m} :
    n ∈ t.filterMap (fun e => below m e.1) ↔ (get? n.val t).isSome = true := by
  rw [mem_keysBelow_iff, Option.isSome_iff_exists]
  exact exists_congr fun x => ⟨get?_of_mem hw, mem_of_get?⟩

/-- In the canonical form no key stands twice. -/
theorem nodup_keys {lo : Nat} (hw : wfFrom lo t = true) : (t.map Prod.fst).Nodup := by
  induction t generalizing lo with
  | nil => exact List.nodup_nil
  | cons e rest ih =>
    obtain ⟨-, hrest⟩ : lo ≤ e.1 ∧ wfFrom (e.1 + 1) rest = true := by simpa [wfFrom] using hw
    refine List.nodup_cons.mpr ⟨fun hmem => ?_, ih hrest⟩
    obtain ⟨e', he', hkey⟩ := List.mem_map.mp hmem
    have := le_of_mem hrest he'
    omega

theorem nodup_keysBelow (hw : wf t = true) : (t.filterMap (fun e => below m e.1)).Nodup := by
  refine List.pairwise_filterMap.mpr ((List.pairwise_map.mp (nodup_keys hw)).imp fun hne i hi j hj hij => hne ?_)
  rw [below_eq_some_iff.mp hi, below_eq_some_iff.mp hj, hij]

end Table

end Sys2Proof.Machine

/-! ## LOCKER_SET (03 R64 to R68) -/

namespace Sys2Proof.Machine
open Sys2Proof.Claims

section Range
variable {s : State} {f l : Nat} {p : Locker → Bool} {g : Locker → Locker}

/-! ### The lockers of a range -/

/-- The existing lockers of a range (R64). -/
theorem mem_lockersIn_iff (hw : Table.wf s.lockers = true) {n : Fin 1024} :
    n ∈ s.lockersIn f l ↔ f ≤ n.val ∧ n.val ≤ l ∧ (s.locker? n).isSome = true := by
  have hlisted : n ∈ s.lockerNumbers ↔ (s.locker? n).isSome = true := Table.mem_keysBelow_iff_isSome hw
  simp only [State.lockersIn, List.mem_filter, hlisted, Bool.and_eq_true, decide_eq_true_eq]
  exact and_comm.trans and_assoc

theorem nodup_lockersIn (hw : Table.wf s.lockers = true) : (s.lockersIn f l).Nodup :=
  (Table.nodup_keysBelow hw).filter _

/-! ### A change of every locker of a range that meets a test -/

/-- The lockers of a range that meet a test. -/
def State.meeting (s : State) (f l : Nat) (p : Locker → Bool) : List (Fin 1024) :=
  (s.lockersIn f l).filter (s.lockerIs p)

/-- The state with every locker of a range that meets a test changed. -/
def State.changeMeeting (s : State) (f l : Nat) (p : Locker → Bool) (g : Locker → Locker) : State :=
  { s with lockers := s.lockers.map (fun e => (e.1, if f ≤ e.1 ∧ e.1 ≤ l ∧ p e.2 = true then g e.2 else e.2)) }

/-- A change of a locker's entry, in the canonical form: the entry at its key, and nothing else. -/
theorem modLocker_eq_map (hw : Table.wf s.lockers = true) (n : Fin 1024) (g : Locker → Locker) :
    s.modLocker n g = { s with lockers := s.lockers.map (fun e => (e.1, if e.1 = n.val then g e.2 else e.2)) } := by
  unfold State.modLocker
  cases hn : s.locker? n with
  | none => simp only [Table.map_of_get?_none (k := n.val) hn g]
  | some l => simp only [State.putLocker, Table.put_eq_map hw hn g]

/-- The change of the lockers of a list, one after another. -/
theorem foldl_modLocker (hw : Table.wf s.lockers = true) {ns : List (Fin 1024)} (hns : ns.Nodup) :
    ns.foldl (fun s n => s.modLocker n g) s =
      { s with lockers := s.lockers.map (fun e => (e.1, if e.1 ∈ ns.map Fin.val then g e.2 else e.2)) } := by
  induction ns generalizing s with
  | nil => simp
  | cons n ns ih =>
    obtain ⟨hn, hns⟩ := List.nodup_cons.mp hns
    rw [List.foldl_cons, modLocker_eq_map hw, ih (Table.wf_map (fun e => if e.1 = n.val then g e.2 else e.2) hw) hns]
    have hrest : n.val ∉ ns.map Fin.val := by
      intro hmem
      obtain ⟨m, hm, hval⟩ := List.mem_map.mp hmem
      exact hn (Fin.ext hval ▸ hm)
    simp only [List.map_map, List.map_cons, List.mem_cons]
    congr 1
    refine List.map_congr_left fun e _ => ?_
    by_cases he : e.1 = n.val
    · simp only [Function.comp_apply, he, if_true, if_neg hrest, true_or]
    · simp only [Function.comp_apply, he, if_false, false_or]

/-- An entry's number is among those that meet a test when it lies in the range and its locker meets the test. -/
theorem key_mem_meeting_iff (hw : Table.wf s.lockers = true) (hl : l ≤ 1023) {e : Nat × Locker} (he : e ∈ s.lockers) :
    e.1 ∈ (s.meeting f l p).map Fin.val ↔ f ≤ e.1 ∧ e.1 ≤ l ∧ p e.2 = true := by
  have hread : Table.get? e.1 s.lockers = some e.2 := Table.get?_of_mem hw he
  simp only [State.meeting, List.mem_map, List.mem_filter, mem_lockersIn_iff hw, State.lockerIs, State.locker?]
  constructor
  · rintro ⟨n, ⟨⟨hf, hn, -⟩, hp⟩, hkey⟩
    rw [hkey, hread] at hp
    exact ⟨hkey ▸ hf, hkey ▸ hn, hp⟩
  · rintro ⟨hf, hn, hp⟩
    refine ⟨⟨e.1, by omega⟩, ⟨⟨hf, hn, ?_⟩, ?_⟩, rfl⟩
    · rw [hread]; rfl
    · rw [hread]; exact hp

/-- The lockers that meet a test are changed one after another, or all at once. -/
theorem foldl_modLocker_meeting (hw : Table.wf s.lockers = true) (hl : l ≤ 1023) :
    (s.meeting f l p).foldl (fun s n => s.modLocker n g) s = s.changeMeeting f l p g := by
  rw [foldl_modLocker hw (ns := s.meeting f l p) ((nodup_lockersIn hw).filter _), State.changeMeeting]
  congr 1
  exact List.map_congr_left fun e he => by simp only [key_mem_meeting_iff hw hl he]

/-- A test that every locker meets is met by all of the range. -/
theorem meeting_true (hw : Table.wf s.lockers = true) : s.meeting f l (fun _ => true) = s.lockersIn f l := by
  refine List.filter_eq_self.mpr fun n hn => ?_
  obtain ⟨-, -, hsome⟩ := (mem_lockersIn_iff hw).mp hn
  obtain ⟨x, hx⟩ := Option.isSome_iff_exists.mp hsome
  simp [State.lockerIs, hx]

/-- Some locker of the range meets a test. -/
theorem any_lockerIs_iff : (s.lockersIn f l).any (s.lockerIs p) = true ↔ s.meeting f l p ≠ [] := by
  simp [State.meeting, List.filter_eq_nil_iff]

/-- The lockers that meet another test once those that meet a test are changed: the changed entries meet it anew. -/
theorem filter_changeMeeting (q : Locker → Bool) :
    (s.lockersIn f l).filter ((s.changeMeeting f l p g).lockerIs q)
      = s.meeting f l (fun x => q (if p x = true then g x else x)) := by
  refine List.filter_congr fun n hn => ?_
  obtain ⟨hf, hl⟩ : f ≤ n.val ∧ n.val ≤ l := by
    simpa [State.lockersIn] using (List.mem_filter.mp hn).2
  have hread : (s.changeMeeting f l p g).locker? n = (s.locker? n).map (fun x => if p x = true then g x else x) := by
    refine (Table.get?_map n.val (fun k x => if f ≤ k ∧ k ≤ l ∧ p x = true then g x else x) s.lockers).trans ?_
    simp only [hf, hl, true_and]
    rfl
  rw [State.lockerIs, State.lockerIs, hread, Option.any_map]

end Range

/-! ### The checks (R64) -/

section Checks
variable {s : State} {a z : Byte}

theorem lockerSet_range_numbers {x y : BitVec 16} (h : 1023 < x.toNat ∨ 1023 < y.toNat ∨ y.toNat < x.toNat) :
    s.lockerSet x y a z = .refused .range := if_pos h

theorem toNat_lockerNumber (n : Fin 1024) : (BitVec.ofNat 16 n.val).toNat = n.val := by
  rw [BitVec.toNat_ofNat]
  omega

/-- A range of locker numbers in order passes the first check. -/
theorem numbers_pass {f l : Fin 1024} (h : f ≤ l) :
    ¬(1023 < (BitVec.ofNat 16 f.val).toNat ∨ 1023 < (BitVec.ofNat 16 l.val).toNat
      ∨ (BitVec.ofNat 16 l.val).toNat < (BitVec.ofNat 16 f.val).toNat) := by
  have hle : f.val ≤ l.val := h
  rw [toNat_lockerNumber, toNat_lockerNumber]
  omega

theorem lockerSet_range_codes {f l : Fin 1024} (h : f ≤ l) (hc : a = 0 ∨ 4 < a.toNat ∨ 15 < z.toNat) :
    s.lockerSet (BitVec.ofNat 16 f.val) (BitVec.ofNat 16 l.val) a z = .refused .range := by
  unfold State.lockerSet
  rw [if_neg (numbers_pass h)]
  by_cases ha : a = 0 ∨ 4 < a.toNat
  · exact if_pos ha
  · have hz : 15 < z.toNat := (or_assoc.mpr hc).resolve_left ha
    rw [if_neg ha, below_of_le hz]

/-- A range with codes in order names its lockers, and acts on them if there are any. -/
theorem lockerSet_of_codes {f l : Fin 1024} {k : Fin 16} (h : f ≤ l) (ha : 1 ≤ a.toNat ∧ a.toNat ≤ 4)
    (hz : below 16 z.toNat = some k) :
    s.lockerSet (BitVec.ofNat 16 f.val) (BitVec.ofNat 16 l.val) a z =
      if s.lockersIn f.val l.val = [] then .refused .notFound
      else if a = 1 then s.serviceOut (s.lockersIn f.val l.val)
      else if a = 2 then s.serviceIn (s.lockersIn f.val l.val)
      else if a = 3 then s.recheck (s.lockersIn f.val l.val)
      else s.moveZone (s.lockersIn f.val l.val) k := by
  have hcode : ¬(a = 0 ∨ 4 < a.toNat) := by
    rintro (rfl | hbig)
    · exact absurd ha.1 (by decide)
    · omega
  unfold State.lockerSet
  rw [if_neg (numbers_pass h), if_neg hcode, hz, toNat_lockerNumber, toNat_lockerNumber]
  simp only [List.isEmpty_iff]

/-- The action of a code over the lockers named. -/
theorem lockerSet_of_named {f l : Fin 1024} (h : f ≤ l) (hn : s.lockersIn f.val l.val ≠ []) :
    s.lockerSet (BitVec.ofNat 16 f.val) (BitVec.ofNat 16 l.val) 1 0 = s.serviceOut (s.lockersIn f.val l.val)
    ∧ s.lockerSet (BitVec.ofNat 16 f.val) (BitVec.ofNat 16 l.val) 2 0 = s.serviceIn (s.lockersIn f.val l.val)
    ∧ s.lockerSet (BitVec.ofNat 16 f.val) (BitVec.ofNat 16 l.val) 3 0 = s.recheck (s.lockersIn f.val l.val)
    ∧ ∀ k : Fin 16, s.lockerSet (BitVec.ofNat 16 f.val) (BitVec.ofNat 16 l.val) 4 (BitVec.ofNat 8 k.val)
        = s.moveZone (s.lockersIn f.val l.val) k := by
  refine ⟨?_, ?_, ?_, fun k => ?_⟩
  · exact (lockerSet_of_codes (k := 0) h (by decide) rfl).trans (if_neg hn)
  · exact (lockerSet_of_codes (k := 0) h (by decide) rfl).trans (if_neg hn)
  · exact (lockerSet_of_codes (k := 0) h (by decide) rfl).trans (if_neg hn)
  · exact (lockerSet_of_codes h (by decide) (below_byte k (by decide))).trans (if_neg hn)

end Checks

/-! ### The actions (R65 to R68) -/

/-- The states SERVICE_OUT applies to (R65). -/
theorem servesOut_eq :
    Locker.servesOut = fun x => decide (x.state ∈ [LockerState.vacant, .inspect, .jammed, .verify]) := by
  funext x
  rw [Bool.eq_iff_iff]
  simp [Locker.servesOut, or_assoc]

/-- The states RECHECK applies to, with no movement (R67). -/
theorem rechecks_eq :
    Locker.rechecks = fun x => decide (x.state ∈ [LockerState.vacant, .inspect, .jammed] ∧ x.action = none) := by
  funext x
  rw [Bool.eq_iff_iff]
  simp [Locker.rechecks, or_assoc]

/-- The states in which RECHECK asks a locker's head: those it applies to, and VERIFY (R67). -/
theorem rechecks_or_verify_eq : (fun x : Locker => x.rechecks || x.state == .verify) = fun x =>
    decide ((x.state ∈ [LockerState.vacant, .inspect, .jammed] ∧ x.action = none) ∨ x.state = .verify) := by
  funext x
  rw [Bool.eq_iff_iff, rechecks_eq]
  simp

section Actions
variable {s : State} {f l : Nat}

theorem serviceOut_inUse (h : s.meeting f l (fun x => x.holder.isSome) ≠ []) :
    s.serviceOut (s.lockersIn f l) = .refused .inUse := if_pos (any_lockerIs_iff.mpr h)

theorem serviceOut_busy (hh : s.meeting f l (fun x => x.holder.isSome) = [])
    (ha : s.meeting f l (fun x => x.action.isSome) ≠ []) : s.serviceOut (s.lockersIn f l) = .refused .busy :=
  (if_neg (mt any_lockerIs_iff.mp (not_not_intro hh))).trans (if_pos (any_lockerIs_iff.mpr ha))

theorem serviceOut_accepted (hw : Table.wf s.lockers = true) (hl : l ≤ 1023)
    (hh : s.meeting f l (fun x => x.holder.isSome) = []) (ha : s.meeting f l (fun x => x.action.isSome) = []) :
    s.serviceOut (s.lockersIn f l) =
      .accepted (s.changeMeeting f l Locker.servesOut (fun x => { x with state := .outOfService }))
        (.changed (s.meeting f l Locker.servesOut).length) := by
  rw [State.serviceOut, if_neg (mt any_lockerIs_iff.mp (not_not_intro hh)),
    if_neg (mt any_lockerIs_iff.mp (not_not_intro ha)), ← foldl_modLocker_meeting hw hl]
  rfl

theorem serviceIn_busy (h : s.meeting f l (fun x => x.state == .outOfService && x.action.isSome) ≠ []) :
    s.serviceIn (s.lockersIn f l) = .refused .busy := if_pos (any_lockerIs_iff.mpr h)

theorem serviceIn_accepted (hw : Table.wf s.lockers = true) (hl : l ≤ 1023)
    (h : s.meeting f l (fun x => x.state == .outOfService && x.action.isSome) = []) :
    s.serviceIn (s.lockersIn f l) =
      .accepted ((s.meeting f l (fun x => x.state == .outOfService)).foldl State.askStatus
          (s.changeMeeting f l (fun x => x.state == .outOfService) (fun x => { x with state := .verify, holder := none })))
        (.changed (s.meeting f l (fun x => x.state == .outOfService)).length) := by
  rw [State.serviceIn, if_neg (mt any_lockerIs_iff.mp (not_not_intro h)), ← foldl_modLocker_meeting hw hl]
  rfl

/-- RECHECK asks the head of each locker that stands in VERIFY then: those it sent there, and those there before. -/
theorem recheck_accepted (hw : Table.wf s.lockers = true) (hl : l ≤ 1023) :
    s.recheck (s.lockersIn f l) =
      .accepted ((s.meeting f l (fun x => x.rechecks || x.state == .verify)).foldl State.askStatus
          (s.changeMeeting f l Locker.rechecks (fun x => { x with state := .verify })))
        (.changed (s.meeting f l Locker.rechecks).length) := by
  have hfold : (s.meeting f l Locker.rechecks).foldl (fun s n => s.modLocker n (fun x => { x with state := .verify })) s
      = s.changeMeeting f l Locker.rechecks (fun x => { x with state := .verify }) := foldl_modLocker_meeting hw hl
  have hasked := filter_changeMeeting (s := s) (f := f) (l := l) (p := Locker.rechecks)
    (g := fun x => { x with state := .verify }) (fun x => x.state == .verify)
  have htest : (fun x : Locker => (if x.rechecks = true then { x with state := .verify } else x).state == .verify)
      = fun x => x.rechecks || x.state == .verify := by
    funext x
    cases hx : x.rechecks
    · rfl
    · rfl
  rw [htest] at hasked
  refine congrArg (Verdict.accepted · (.changed (s.meeting f l Locker.rechecks).length)) ?_
  rw [← hasked, ← hfold]
  rfl

theorem moveZone_accepted (hw : Table.wf s.lockers = true) (hl : l ≤ 1023) (z : Fin 16) :
    s.moveZone (s.lockersIn f l) z =
      .accepted (s.changeMeeting f l (fun _ => true) (fun x => { x with zone := z }))
        (.changed (s.meeting f l (fun x => x.zone != z)).length) := by
  rw [← foldl_modLocker_meeting hw hl, meeting_true hw]
  rfl

end Actions

theorem carries_lockerRow {a b z : Byte} {x y : BitVec 16} : Carries (lockerRow a) (.lockerSet x y b z) := by
  intro fr
  unfold lockerRow
  split
  · rfl
  split
  · rfl
  split <;> rfl

end Sys2Proof.Machine

namespace Sys2Proof.Proofs
open Sys2Proof Sys2Proof.Machine Sys2Proof.Claims

/-- Settles O32: the checks in their order, then each action over the lockers of the range it applies to. -/
theorem lockerSetResult : Obligations.LockerSetResult := by
  refine ⟨fun _ _ => rfl, ?_⟩
  intro s f l hr htables hfl c named hit set out off look
  obtain ⟨-, hw, -⟩ := htables
  have hl : l.val ≤ 1023 := by omega
  refine ⟨fun n => mem_lockersIn_iff hw, fun x y a z hz h => ?_, fun a z hz h => ?_, fun hn a z hz ha ha' h => ?_,
    fun hn => ?_⟩
  · exact refuses_of_owner hr carries_lockerRow hz (lockerSet_range_numbers h)
  · exact refuses_of_owner hr carries_lockerRow hz (lockerSet_range_codes hfl h)
  · exact refuses_of_owner hr carries_lockerRow hz
      ((lockerSet_of_codes (s := framed s) hfl ⟨ha, ha'⟩ (below_of_lt (by omega))).trans (if_pos hn))
  obtain ⟨hone, htwo, hthree, hfour⟩ := lockerSet_of_named (s := framed s) hfl hn
  have hw' : Table.wf (framed s).lockers = true := hw
  refine ⟨fun hh => ?_, fun hh ha => ?_, fun hh ha => ?_, fun ha => ?_, fun ha => ?_, ?_, fun z => ?_⟩
  · exact refuses_of_owner hr (fun _ => rfl) (.inr rfl) (hone.trans (serviceOut_inUse hh))
  · exact refuses_of_owner hr (fun _ => rfl) (.inr rfl) (hone.trans (serviceOut_busy hh ha))
  · refine answers_of_owner hr (fun _ => rfl) (.inr rfl) (hone.trans ((serviceOut_accepted hw' hl hh ha).trans ?_))
    rw [servesOut_eq]
    rfl
  · exact refuses_of_owner hr (fun _ => rfl) (.inr rfl) (htwo.trans (serviceIn_busy ha))
  · exact answers_of_owner hr (fun _ => rfl) (.inr rfl) (htwo.trans (serviceIn_accepted hw' hl ha))
  · refine answers_of_owner hr (fun _ => rfl) (.inr rfl) (hthree.trans ((recheck_accepted hw' hl).trans ?_))
    rw [rechecks_or_verify_eq, rechecks_eq]
    rfl
  · refine answers_of_owner hr (fun _ => rfl) (.inl rfl) ((hfour z).trans ((moveZone_accepted hw' hl z).trans ?_))
    have hne : (fun x : Locker => x.zone != z) = fun x => decide (x.zone ≠ z) := by
      funext x
      rw [Bool.eq_iff_iff]
      simp
    rw [hne]
    rfl

end Sys2Proof.Proofs

/-! ## HEAD_REMOVE and POLL_PLAN (09 R169, R170) -/

namespace Sys2Proof.Machine
open Sys2Proof.Claims

section Removal
variable {s : State} {sp : Fin 4} {a : Fin 32}

/-! ### HEAD_REMOVE: the refusals (R51, R169) -/

/-- The lockers of a LOCK head, one for each door that has one. -/
theorem mem_lockersOf_iff {l : Locker} : l ∈ s.lockersOf sp a ↔ ∃ i : Fin 8, s.locker? (lockerAt sp a i) = some l := by
  simp [State.lockersOf]

/-- A removal is refused exactly when the head's doors are held, moving or in use. -/
theorem removalRefusal_eq_some_iff {e : Enrolment} {r : RefusalCode} :
    s.removalRefusal sp a e = some r ↔ Held s sp a e r := by
  cases e with
  | lock k =>
    have hany : (s.lockersOf sp a).any (fun l => l.holder.isSome || l.action.isSome) = true ↔
        ∃ (i : Fin 8) (l : Locker), s.locker? (lockerAt sp a i) = some l ∧ (l.holder ≠ none ∨ l.action ≠ none) := by
      simp only [List.any_eq_true, mem_lockersOf_iff, Bool.or_eq_true, Option.isSome_iff_ne_none]
      exact ⟨fun ⟨l, ⟨i, hi⟩, h⟩ => ⟨i, l, hi, h⟩, fun ⟨i, l, hi, h⟩ => ⟨l, ⟨i, hi⟩, h⟩⟩
    simp only [State.removalRefusal, Held, ← hany]
    split
    · next h => simp [h, eq_comm]
    · next h => simp [h]
  | cabin n =>
    unfold State.removalRefusal Held
    dsimp only
    cases s.cabin? n with
    | none => simp
    | some c =>
      simp only [Option.some.injEq, exists_eq_left', Option.isSome_iff_ne_none]
      by_cases hu : c.state ≠ .free ∧ c.state ≠ .disabled
      · simp [hu, eq_comm]
      · by_cases hm : c.state = .disabled ∧ c.action ≠ none
        · rw [if_neg hu, if_pos hm]
          simp [hm, eq_comm]
        · rw [if_neg hu, if_neg hm]
          simp only [hu, hm, and_false, or_self, reduceCtorEq]
  | kiosk | exit => simp [State.removalRefusal, Held]

theorem headRemove_range {p x : Byte} (h : 3 < p.toNat ∨ 31 < x.toNat) : s.headRemove p x = .refused .range := by
  unfold State.headRemove
  rcases h with hp | hx
  · rw [below_of_le hp]
  · rw [below_of_le hx]
    cases below 4 p.toNat <;> rfl

theorem headRemove_absent (h : s.head? sp a = none) :
    s.headRemove (BitVec.ofNat 8 sp.val) (BitVec.ofNat 8 a.val) = .refused .notFound := by
  unfold State.headRemove
  rw [below_byte sp (by decide), below_byte a (by decide)]
  dsimp only
  rw [h]

/-- HEAD_REMOVE of an enrolled head: refused where the removal is, else carried out. -/
theorem headRemove_of_head {h : Head} (hh : s.head? sp a = some h) :
    s.headRemove (BitVec.ofNat 8 sp.val) (BitVec.ofNat 8 a.val) =
      (s.removalRefusal sp a h.enrolment).elim (.accepted (s.removeHead sp a h.enrolment) .nothing) .refused := by
  unfold State.headRemove
  rw [below_byte sp (by decide), below_byte a (by decide)]
  dsimp only
  rw [hh]
  dsimp only
  cases s.removalRefusal sp a h.enrolment <;> rfl

theorem headRemove_held {h : Head} {r : RefusalCode} (hh : s.head? sp a = some h) (hr : Held s sp a h.enrolment r) :
    s.headRemove (BitVec.ofNat 8 sp.val) (BitVec.ofNat 8 a.val) = .refused r := by
  rw [headRemove_of_head hh, removalRefusal_eq_some_iff.mpr hr]
  rfl

theorem headRemove_accepted {h : Head} (hh : s.head? sp a = some h) (hr : ∀ r, ¬Held s sp a h.enrolment r) :
    s.headRemove (BitVec.ofNat 8 sp.val) (BitVec.ofNat 8 a.val) = .accepted (s.removeHead sp a h.enrolment) .nothing := by
  have hnone : s.removalRefusal sp a h.enrolment = none :=
    Option.eq_none_iff_forall_ne_some.mpr fun r e => hr r (removalRefusal_eq_some_iff.mp e)
  rw [headRemove_of_head hh, hnone]
  rfl

/-! ### HEAD_REMOVE: the removal (R51, R158, R169) -/

/-- A spur without a head: its entry is gone, and an exchange with it is marked. -/
def Spur.without (p : Spur) (a : Fin 32) : Spur :=
  { p with
      heads := Table.drop a.val p.heads
      exchange := p.exchange.map (fun x => { x with removed := x.removed || x.address == a }) }

theorem putSpur_putSpur (s : State) (sp : Fin 4) (p q : Spur) : (s.putSpur sp p).putSpur sp q = s.putSpur sp q := by
  simp [State.putSpur]

theorem markRemoved_dropHead : (s.dropHead sp a).markRemoved sp a = s.putSpur sp ((s.spur sp).without a) := by
  unfold State.markRemoved State.dropHead Spur.without
  rw [State.spur_putSpur_self]
  dsimp only
  cases (s.spur sp).exchange with
  | none => rfl
  | some x =>
    by_cases hx : x.address = a
    · simp [hx, putSpur_putSpur]
    · have hb : (x.address == a) = false := beq_eq_false_iff_ne.mpr hx
      simp [hx, hb]

/-- The lockers of some doors of a head become ABSENT, one after another. -/
theorem foldl_dropLocker (ds : List (Fin 8)) : ds.foldl (fun s i => s.dropLocker (lockerAt sp a i)) s =
    { s with lockers := (ds.map Fin.val).foldl (fun t i => Table.drop (sp.val * 256 + a.val * 8 + i) t) s.lockers } := by
  induction ds generalizing s with
  | nil => rfl
  | cons i ds ih =>
    rw [List.foldl_cons, ih]
    rfl

/-- The doors of a removed head are gone. -/
theorem deleteDoors_eq (e : Enrolment) : s.deleteDoors sp a e = withoutDoors s sp a e := by
  cases e with
  | lock k =>
    have hrange : (List.finRange 8).map Fin.val = List.range 8 := by decide
    simp only [State.deleteDoors, withoutDoors, foldl_dropLocker, hrange]
  | cabin | kiosk | exit => rfl

theorem removeHead_eq (e : Enrolment) :
    s.removeHead sp a e = withoutDoors (s.putSpur sp ((s.spur sp).without a)) sp a e := by
  rw [State.removeHead, markRemoved_dropHead, deleteDoors_eq]

end Removal

/-! ### POLL_PLAN (R170) -/

/-- An address out of range refuses its fast list. -/
theorem addressesOf_of_big {fast : List Byte} (h : ∃ b ∈ fast, 31 < b.toNat) : addressesOf fast = none := by
  induction fast with
  | nil => simp at h
  | cons b rest ih =>
    unfold addressesOf
    rcases (by simpa using h : 31 < b.toNat ∨ ∃ b ∈ rest, 31 < b.toNat) with hb | hrest
    · rw [below_of_le hb]
    · rw [ih hrest]
      cases below 32 b.toNat <;> rfl

/-- The addresses of a fast list in range are those its bytes spell. -/
theorem addressesOf_map (l : List (Fin 32)) : addressesOf (l.map (fun a => BitVec.ofNat 8 a.val)) = some l := by
  induction l with
  | nil => rfl
  | cons a l ih =>
    rw [List.map_cons, addressesOf, below_byte a (by decide), ih]

/-- A fast list in range is spelled by addresses. -/
theorem exists_addresses {fast : List Byte} (h : ∀ b ∈ fast, b.toNat ≤ 31) :
    ∃ l : List (Fin 32), fast = l.map (fun a => BitVec.ofNat 8 a.val) := by
  induction fast with
  | nil => exact ⟨[], rfl⟩
  | cons b rest ih =>
    obtain ⟨hb, hrest⟩ := List.forall_mem_cons.mp h
    obtain ⟨l, rfl⟩ := ih hrest
    exact ⟨⟨b.toNat, by omega⟩ :: l, by simp⟩

theorem addressByte_inj {a b : Fin 32} : (BitVec.ofNat 8 a.val : Byte) = BitVec.ofNat 8 b.val ↔ a = b := by
  refine ⟨fun h => ?_, fun h => by rw [h]⟩
  have := congrArg BitVec.toNat h
  rw [BitVec.toNat_ofNat, BitVec.toNat_ofNat] at this
  omega

/-- A fast list repeats an address when its bytes repeat. -/
theorem nodup_addressBytes_iff {l : List (Fin 32)} :
    (l.map (fun a => (BitVec.ofNat 8 a.val : Byte))).Nodup ↔ l.Nodup := by
  unfold List.Nodup
  simp only [List.pairwise_map, ne_eq, addressByte_inj]

theorem distinct_iff_nodup {l : List (Fin 32)} : distinct l = true ↔ l.Nodup := by
  induction l with
  | nil => simp [distinct]
  | cons a l ih => simp [distinct, ih]

theorem rateOf_rateCode (r : BitRate) : rateOf (BitVec.ofNat 8 (rateCode r)).toNat = some r := by
  cases r <;> rfl

section Plan
variable {s : State} {sp : Fin 4}

/-- A locker of the spur is moving. -/
theorem any_locker_moving_iff :
    s.lockerNumbers.any (fun n => lockerSpur n == sp && (s.action? (.locker n)).isSome) = true ↔
      ∃ n : Fin 1024, n.val / 256 = sp.val ∧ ∃ l, s.locker? n = some l ∧ l.action ≠ none := by
  have hmove : ∀ n : Fin 1024, (s.action? (.locker n)).isSome = true ↔ ∃ l, s.locker? n = some l ∧ l.action ≠ none := by
    intro n
    simp only [State.action?, Option.isSome_bind, Option.any_eq_true, Option.isSome_iff_ne_none]
  have hspur : ∀ n : Fin 1024, lockerSpur n = sp ↔ n.val / 256 = sp.val := fun n => Fin.ext_iff
  simp only [List.any_eq_true, Bool.and_eq_true, beq_iff_eq, hmove, hspur]
  exact exists_congr fun n => and_iff_right_of_imp fun ⟨_, l, hl, _⟩ => Table.mem_keysBelow_of_get? hl

/-- A cabin of the spur is moving. -/
theorem any_cabin_moving_iff :
    s.cabinNumbers.any (fun n => (s.cabin? n).any (fun c => c.spur == sp && c.action.isSome)) = true ↔
      ∃ (n : Fin 64) (k : Cabin), s.cabin? n = some k ∧ k.spur = sp ∧ k.action ≠ none := by
  simp only [List.any_eq_true, Option.any_eq_true, Bool.and_eq_true, beq_iff_eq, Option.isSome_iff_ne_none]
  exact exists_congr fun n => and_iff_right_of_imp fun ⟨k, hk, _⟩ => Table.mem_keysBelow_of_get? hk

/-- A spur is busy when a head of it waits to be sent something, or a door of it moves. -/
theorem spurBusy_iff : s.spurBusy sp = true ↔
    (∃ x ∈ (s.spurs[sp]).heads, x.2.items ≠ [] ∨ x.2.identOwed = true)
      ∨ (∃ n : Fin 1024, n.val / 256 = sp.val ∧ ∃ l, s.locker? n = some l ∧ l.action ≠ none)
      ∨ ∃ (n : Fin 64) (k : Cabin), s.cabin? n = some k ∧ k.spur = sp ∧ k.action ≠ none := by
  have hheads : (s.spur sp).heads.any (fun e => !e.2.items.isEmpty || e.2.identOwed) = true ↔
      ∃ x ∈ (s.spurs[sp]).heads, x.2.items ≠ [] ∨ x.2.identOwed = true := by
    simp [State.spur]
  rw [State.spurBusy, State.spurMoving, Bool.or_eq_true, Bool.or_eq_true, hheads, any_locker_moving_iff,
    any_cabin_moving_iff]

/-- The checks of a plan whose bytes spell a spur, a bit rate and addresses (R170). -/
theorem pollPlan_of_spelled {p b : Byte} {r : BitRate} {fast : List (Fin 32)} (hp : below 4 p.toNat = some sp)
    (hr : rateOf b.toNat = some r) :
    s.pollPlan p b (fast.map (fun a => BitVec.ofNat 8 a.val)) =
      if 4 < fast.length ∨ ¬fast.Nodup then .refused .range
      else if r ≠ (s.spur sp).rate ∧ s.spurBusy sp = true then .refused .busy
      else .accepted (s.putSpur sp { s.spur sp with rate := r, fastList := fast }) (.plan r fast) := by
  have hdup : distinct fast = false ↔ ¬fast.Nodup := by rw [← distinct_iff_nodup, Bool.not_eq_true]
  unfold State.pollPlan
  rw [hp, hr, addressesOf_map]
  simp only [hdup]

theorem rateOf_of_big {n : Nat} (h : 3 < n) : rateOf n = none := by
  obtain ⟨m, rfl⟩ : ∃ m, n = m + 4 := ⟨n - 4, by omega⟩
  rfl

theorem pollPlan_range {p b : Byte} {fast : List Byte} (h : 3 < p.toNat ∨ 3 < b.toNat ∨ (∃ x ∈ fast, 31 < x.toNat)
    ∨ 4 < fast.length ∨ ¬fast.Nodup) : s.pollPlan p b fast = .refused .range := by
  cases hp : below 4 p.toNat with
  | none => simp only [State.pollPlan, hp]
  | some sp =>
    cases hr : rateOf b.toNat with
    | none => simp only [State.pollPlan, hp, hr]
    | some r =>
      have hp3 : ¬3 < p.toNat := fun hbig => by simp [below_of_le hbig] at hp
      have hb3 : ¬3 < b.toNat := fun hbig => by simp [rateOf_of_big hbig] at hr
      rcases (h.resolve_left hp3).resolve_left hb3 with hbig | hlist
      · simp only [State.pollPlan, hp, hr, addressesOf_of_big hbig]
      · by_cases hbig : ∃ x ∈ fast, 31 < x.toNat
        · simp only [State.pollPlan, hp, hr, addressesOf_of_big hbig]
        · obtain ⟨l, rfl⟩ := exists_addresses fun x hx => Nat.not_lt.mp fun hlt => hbig ⟨x, hx, hlt⟩
          rw [List.length_map, nodup_addressBytes_iff] at hlist
          rw [pollPlan_of_spelled hp hr, if_pos hlist]

end Plan

end Sys2Proof.Machine

namespace Sys2Proof.Proofs
open Sys2Proof Sys2Proof.Machine Sys2Proof.Claims

/-- Settles O36: each command's refusals, then what an accepted one leaves. -/
theorem headRemoveAndPlanResult : Obligations.HeadRemoveAndPlanResult := by
  intro s hr
  refine ⟨fun p a h => ?_, fun sp a => ⟨fun hh => ?_, fun h hh => ⟨fun r hheld => ?_, fun hfree => ?_⟩⟩,
    fun p r fast hlen h => ?_, fun sp r fast hlen hnd => ?_⟩
  · exact refuses_of_owner hr (fun _ => rfl) trivial (headRemove_range h)
  · exact refuses_of_owner hr (fun _ => rfl) trivial (headRemove_absent (s := framed s) hh)
  · exact refuses_of_owner hr (fun _ => rfl) trivial (headRemove_held (s := framed s) hh hheld)
  · refine answers_of_owner hr (fun _ => rfl) trivial ((headRemove_accepted (s := framed s) hh hfree).trans ?_)
    rw [removeHead_eq]
    rfl
  · exact refuses_of_owner hr (fun _ => rfl) hlen (pollPlan_range h)
  · have hspelled : (Command.pollPlan (BitVec.ofNat 8 sp.val) (BitVec.ofNat 8 (rateCode r))
        (fast.map (fun a => BitVec.ofNat 8 a.val))).spelled := by
      rw [Command.spelled, List.length_map]
      omega
    have hshort : ¬(4 < fast.length ∨ ¬fast.Nodup) := not_or.mpr ⟨by omega, not_not_intro hnd⟩
    have hplan := (pollPlan_of_spelled (s := framed s) (below_byte sp (by decide)) (rateOf_rateCode r)).trans
      (if_neg hshort)
    refine ⟨fun hrate hbusy => ?_, fun hok => ?_⟩
    · exact refuses_of_owner hr (fun _ => rfl) hspelled
        (hplan.trans (if_pos ⟨hrate, spurBusy_iff (s := framed s).mpr hbusy⟩))
    · refine answers_of_owner hr (fun _ => rfl) hspelled (hplan.trans (if_neg ?_))
      rintro ⟨hrate, hbusy⟩
      exact hok.elim hrate fun hidle => hidle (spurBusy_iff (s := framed s).mp hbusy)

end Sys2Proof.Proofs

/-! ## Door reports (03 R52 to R55, 04 R77, 06 R106, R108) -/

namespace Sys2Proof.Machine
open Sys2Proof.Claims

/-! ### The row of a report (R158, R159) -/

section Report
variable {s : State} {sp : Fin 4} {a : Fin 32} {it : ReplyItem}

theorem Head.active_iff {h : Head} : h.active = true ↔ h.state = .identifying ∨ h.state = .online := by
  simp [Head.active]

/-- A report is taken by the enrolment of its head. -/
theorem reportsFrom_of_reports {e : Enrolment} (h : Reports s sp a e) : (counted s).reportsFrom sp a = some e := by
  obtain ⟨-, hd, hhead, hstate, rfl⟩ := h
  unfold State.reportsFrom
  rw [show (counted s).head? sp a = some hd from hhead]
  exact if_pos (Head.active_iff.mpr hstate)

/-- An item of a reply that is not discarded leads to its effect. -/
theorem leads_of_item {i : Instr} {f : State → State} (halive : alive s sp)
    (hi : exec i s = event (State.takeItem · sp a it f) s) : Leads i s (f (counted s)) sp a it := by
  rw [Leads, hi]
  exact congrArg (fun t : State => Host.Outcome.next t.arbitrate) (takeItem_of_alive (s := counted s) halive a it f)

/-- A report taken leads to its effect at the enrolment of its head. -/
theorem leads_of_report {i : Instr} {e : Enrolment} {f : Enrolment → State → State} (h : Reports s sp a e)
    (hi : exec i s = event (State.takeReport · sp a it f) s) : Leads i s (f e (counted s)) sp a it := by
  have hlead := leads_of_item h.1 hi
  rwa [reportsFrom_of_reports h] at hlead

end Report

/-! ### A locker's door (R52, R54, R55, R77) -/

section LockerDoor
variable {s : State} {n : Fin 1024} {l : Locker}

/-- The automatic relock, where the zone has it and a place is granted (R55). -/
theorem autoRelock_eq : s.autoRelock n l =
    if (s.zones[l.zone]).autoRelock = true ∧ s.queue.sum < 128
    then (reserved s).handOver (.locker n) .throw .relock l.holder none true else s := by
  unfold State.autoRelock
  by_cases hz : (s.zones[l.zone]).autoRelock = true
  · by_cases hq : s.queue.sum < 128
    · rw [if_pos hz, if_pos ⟨hz, hq⟩, reserve?_of_room (Nat.not_le.mpr hq)]
    · rw [if_pos hz, if_neg fun h => hq h.2, reserve?_of_full (Nat.not_lt.mp hq)]
  · rw [if_neg hz, if_neg fun h => hz h.1]

theorem throwing_putLocker : (s.putLocker n l).throwing (.locker n) = l.action.any (fun x => x.direction == .throw) := by
  simp [State.throwing, State.action?]

/-- What a door report does at a locker that exists. -/
theorem lockerDoor_of_locker (hl : s.locker? n = some l) (d : Door) : s.lockerDoor n d = doorTaken s n l d := by
  unfold State.lockerDoor doorTaken
  rw [hl]
  dsimp only
  rw [throwing_putLocker, autoRelock_eq]
  by_cases ha : l.action = none
  · rw [ha, if_neg (by decide), if_neg (not_not_intro rfl)]
    by_cases hd : l.door = d
    · rw [if_pos hd, if_pos hd]
      rfl
    · rw [if_neg hd, if_neg hd]
      by_cases hforced : (l.state = .locked ∨ l.state = .inspect) ∧ d = .opened
      · rw [if_pos hforced]
        obtain ⟨hs | hs, rfl⟩ := hforced
        · rw [hs]; rfl
        · rw [hs]; rfl
      · rw [if_neg hforced]
        split
        · next hs => exact absurd ⟨.inl hs, rfl⟩ hforced
        · next hs => exact absurd ⟨.inr hs, rfl⟩ hforced
        · next hs =>
          simp only [hs, true_and]
          rfl
        · next hrest =>
          rw [if_neg fun h => hrest h.1 h.2.1]
          rfl
  · rw [if_pos (Option.isSome_iff_ne_none.mpr ha), if_pos ha]
    rfl

end LockerDoor

/-! ### A cabin's door (R77, R106, R108) -/

section CabinDoor
variable {s : State} {n : Fin 64} {c : Cabin}

theorem throwing_putCabin : (s.putCabin n c).throwing (.cabin n) = c.action.any (fun x => x.direction == .throw) := by
  simp [State.throwing, State.action?]

/-- The withdrawal of an ACTUATE writes the head tables alone. -/
theorem withdraw_only (s : State) (d : DoorId) : ∃ v, s.withdraw d = { s with spurs := v } := by
  unfold State.withdraw
  split
  · exact State.modHead_only ..
  · exact ⟨_, rfl⟩

/-- The end of a cabin's action leaves its entry without it, and the moment as it is (R79). -/
theorem endAction_cabin (hc : s.cabin? n = some c) : (s.endAction (.cabin n)).cabin? n = some { c with action := none }
    ∧ (s.endAction (.cabin n)).now = s.now := by
  obtain ⟨v, hv⟩ := withdraw_only s (.cabin n)
  have hend : s.endAction (.cabin n) = State.putCabin { s with spurs := v } n { c with action := none } := by
    rw [State.endAction, hv]
    exact State.modCabin_of { s with spurs := v } hc _
  rw [hend]
  exact ⟨State.cabin?_putCabin_self .., rfl⟩

/-- A cabin left by its occupant: its movement ends unrecorded, its counts stop, and it is VACATING (R108). -/
theorem vacate_dropAction (hc : s.cabin? n = some c) : (s.dropAction (.cabin n)).vacate n =
    (withCabin (if c.action = none then s else s.endAction (.cabin n)) n
      { halted c s.now with state := .vacating, action := none }).followLamp n := by
  unfold State.dropAction State.vacate
  have haction : s.action? (.cabin n) = c.action := by simp [State.action?, hc]
  rw [haction]
  cases ha : c.action with
  | none =>
    dsimp only
    rw [State.modCabin_of _ hc, if_pos rfl]
    obtain ⟨⟩ := c
    cases ha
    rfl
  | some x =>
    obtain ⟨hcab, hnow⟩ := endAction_cabin hc
    dsimp only
    rw [State.modCabin_of _ hcab, hnow, if_neg (by simp)]
    rfl

/-- What a door report does at a cabin with an entry. -/
theorem cabinDoor_of_cabin (hc : s.cabin? n = some c) (d : Door) : s.cabinDoor n d =
    let u := withCabin s n { c with door := d }
    let running := c.state = .occupied ∨ c.state = .overtime
    if running ∧ c.phase = .outside ∧ c.door = .opened ∧ d = .shut then
      (withCabin s n { c with door := d, phase := .inside, entered := true, entryDeadline := none }).handOver (.cabin n)
        .throw .secure none none false
    else if running ∧ c.phase = .inside ∧ c.door ≠ .opened ∧ d = .opened then
      (withCabin (if c.action = none then u else u.endAction (.cabin n)) n
        { halted { c with door := d } s.now with state := .vacating, action := none }).followLamp n
    else if c.state = .vacating ∧ c.action = none ∧ c.door ≠ .shut ∧ d = .shut then
      u.handOver (.cabin n) .throw .reset none none false
    else if c.action.any (fun x => x.direction == .throw) = true ∧ d = .opened then u.failAttempt (.cabin n)
    else u := by
  have hput : (s.putCabin n { c with door := d }).cabin? n = some { c with door := d } := State.cabin?_putCabin_self ..
  unfold State.cabinDoor
  rw [hc]
  dsimp only
  rw [State.modCabin_of _ hput, State.putCabin_putCabin, vacate_dropAction hput, throwing_putCabin]
  rfl

end CabinDoor

end Sys2Proof.Machine

namespace Sys2Proof.Proofs
open Sys2Proof Sys2Proof.Machine Sys2Proof.Claims

/-- Settles O55: what a report does at the locker or cabin, as its row leads to it. -/
theorem doorReportsResult : Obligations.DoorReportsResult := by
  intro s sp a d
  refine ⟨fun k i hrep => ?_, fun n hrep => ?_⟩
  · intro n row it
    have hlead := leads_of_report (i := .lockerDoorReport sp a i d) hrep rfl
    change Leads row s ((counted s).lockerDoor n d) sp a it at hlead
    refine ⟨fun habsent => ?_, fun l hl => ?_⟩
    · rwa [State.lockerDoor, show (counted s).locker? n = none from habsent] at hlead
    · rw [lockerDoor_of_locker (s := counted s) hl, doorTaken] at hlead
      simp only [apply_ite (fun u => Leads row s u sp a it)] at hlead
      exact hlead
  · intro row it
    have hlead := leads_of_report (i := .cabinDoorReport sp a d) hrep rfl
    change Leads row s ((counted s).cabinDoor n d) sp a it at hlead
    refine ⟨fun habsent => ?_, fun c hc => ?_⟩
    · rwa [State.cabinDoor, show (counted s).cabin? n = none from habsent] at hlead
    · rw [cabinDoor_of_cabin (s := counted s) hc] at hlead
      simp only [apply_ite (fun u => Leads row s u sp a it)] at hlead
      exact hlead

end Sys2Proof.Proofs

/-! ## STATUS (03 R56, R57, R85, 06 R119, 09 R160) -/

namespace Sys2Proof.Machine
open Sys2Proof.Claims

/-! ### A STATUS matched against the enrolment (R160) -/

section Match
variable {s : State} {sp : Fin 4} {a : Fin 32} {ty : HeadType} {doors : List (Door × Bolt)}

/-- A STATUS of a head neither IDENTIFYING nor ONLINE has no effect (log 17). -/
theorem matchStatus_of_inactive (h : ∀ hd, s.head? sp a = some hd → hd.state = .silent ∨ hd.state = .mismatched) :
    s.matchStatus sp a ty doors = s := by
  have hnone : s.reportsFrom sp a = none := by
    unfold State.reportsFrom
    cases hhead : s.head? sp a with
    | none => rfl
    | some hd =>
      have hidle : ¬hd.active = true := by
        rw [Head.active_iff]
        rcases h hd hhead with hs | hs
        · simp [hs]
        · simp [hs]
      exact if_neg hidle
  rw [State.matchStatus, hnone]

theorem matchStatus_of_match {e : Enrolment} (h : s.reportsFrom sp a = some e) (hty : ty = e.type)
    (hlen : doors.length = e.doorCount) : s.matchStatus sp a ty doors =
      (s.modHead sp a (fun h => { h with state := .online })).takeStatus sp a e doors := by
  rw [State.matchStatus, h]
  exact if_pos ⟨hty, hlen⟩

theorem matchStatus_of_mismatch {e : Enrolment} (h : s.reportsFrom sp a = some e)
    (hne : ty ≠ e.type ∨ doors.length ≠ e.doorCount) : s.matchStatus sp a ty doors =
      noticed (s.modHead sp a (fun h => { h with state := .mismatched })) .headFault (.head sp a)
        (.headState .mismatched) := by
  rw [State.matchStatus, h]
  exact if_neg fun ⟨hty, hlen⟩ => hne.elim (absurd hty) (absurd hlen)

end Match

/-! ### A locker's door in a STATUS (R56, R85) -/

section LockerStatus
variable {s : State} {n : Fin 1024} {l : Locker} {b : Bolt}

/-- A locker that is not in VERIFY takes its door report and its bolt field. -/
theorem lockerStatus_of_settled (hl : s.locker? n = some l) (hv : l.state ≠ .verify) (d : Door) :
    s.lockerStatus n (d, b) = bolted (doorTaken s n l d) (.locker n) b := by
  unfold State.lockerStatus
  rw [hl]
  dsimp only
  rw [if_neg hv, lockerDoor_of_locker hl]
  rfl

/-- A locker in VERIFY with no movement takes its door and bolt fields, and is resolved (R85). -/
theorem lockerStatus_of_verify (hl : s.locker? n = some l) (hv : l.state = .verify) (ha : l.action = none) (d : Door) :
    s.lockerStatus n (d, b)
      = ((withLocker s n { l with door := d, bolt := b }).resolve n l b).resolvedOpen n d := by
  have hdoor : s.lockerDoor n d = s.putLocker n { l with door := d } := by
    rw [lockerDoor_of_locker hl, doorTaken, if_neg (not_not_intro ha)]
    simp only [hv, reduceCtorEq, or_self, false_and, if_false, ite_self]
    rfl
  unfold State.lockerStatus
  rw [hl]
  dsimp only
  rw [if_pos hv, hdoor, State.modLocker_of _ (State.locker?_putLocker_self ..), State.putLocker_putLocker]
  rfl

/-- FORCED_DOOR for a locker resolved to LOCKED or INSPECT beside an open door (R85). -/
theorem resolvedOpen_of_locker {x : Locker} (hx : s.locker? n = some x) (d : Door) : s.resolvedOpen n d =
    if (x.state = .locked ∨ x.state = .inspect) ∧ d = .opened
    then noticed s .forcedDoor (.locker n) (.lockerState x.state) else s := by
  unfold State.resolvedOpen
  rw [hx, Option.map_some]
  by_cases hforced : (x.state = .locked ∨ x.state = .inspect) ∧ d = .opened
  · rw [if_pos hforced]
    obtain ⟨hs | hs, rfl⟩ := hforced
    · rw [hs]; rfl
    · rw [hs]; rfl
  · rw [if_neg hforced]
    split
    · next hs => exact absurd ⟨.inl (Option.some.inj hs), rfl⟩ hforced
    · next hs => exact absurd ⟨.inr (Option.some.inj hs), rfl⟩ hforced
    · rfl

theorem resolve_state {x : Locker} {st : LockerState} (hx : s.locker? n = some x) (hr : resolved l.holder.isSome b = st)
    (hi : st ≠ .inspect) (hj : st ≠ .jammed) : s.resolve n l b = withLocker s n { x with state := st } := by
  unfold State.resolve
  rw [hr]
  cases st with
  | inspect => exact absurd rfl hi
  | jammed => exact absurd rfl hj
  | verify | vacant | reserved | locked | released | outOfService => exact State.modLocker_of s hx _

theorem resolve_inspect {x : Locker} (hx : s.locker? n = some x) (hr : resolved l.holder.isSome b = .inspect) :
    s.resolve n l b = noticed (withLocker s n { x with state := .inspect, holder := none }) .inspect (.locker n)
      (.cause .found) := by
  rw [State.resolve, hr]
  dsimp only
  rw [State.enterInspect, State.modLocker_of s hx]
  rfl

theorem resolve_jammed {x : Locker} (hx : s.locker? n = some x) (hr : resolved l.holder.isSome b = .jammed) :
    s.resolve n l b = noticed (withLocker s n { x with state := .jammed }) .jammed (.locker n) .found := by
  rw [State.resolve, hr]
  dsimp only
  rw [State.modLocker_of s hx]
  rfl

theorem withLocker_withLocker (s : State) (n : Fin 1024) (x y : Locker) :
    withLocker (withLocker s n x) n y = withLocker s n y := State.putLocker_putLocker s n x y

theorem locker?_withLocker (s : State) (n : Fin 1024) (x : Locker) : (withLocker s n x).locker? n = some x :=
  State.locker?_putLocker_self s n x

theorem locker?_noticed (s : State) (k : AlertClass) (x : AlertSubject) (y : AlertDetail) (n : Fin 1024) :
    (noticed s k x y).locker? n = s.locker? n := rfl

/-- A VERIFY locker resolved to a state of rest: LOCKED beside an open door is told (R85). -/
theorem lockerStatus_resolved {st : LockerState} {d : Door} (hl : s.locker? n = some l) (hv : l.state = .verify)
    (ha : l.action = none) (hr : resolved l.holder.isSome b = st) (hi : st ≠ .inspect) (hj : st ≠ .jammed) :
    s.lockerStatus n (d, b) =
      if st = .locked ∧ d = .opened
      then noticed (withLocker s n { l with door := d, bolt := b, state := st }) .forcedDoor (.locker n) (.lockerState st)
      else withLocker s n { l with door := d, bolt := b, state := st } := by
  rw [lockerStatus_of_verify hl hv ha, resolve_state (locker?_withLocker ..) hr hi hj, withLocker_withLocker,
    resolvedOpen_of_locker (locker?_withLocker ..)]
  simp only [hi, or_false]

/-- A VERIFY locker with no holder and a thrown bolt goes to INSPECT, told beside an open door too (R57, R85). -/
theorem lockerStatus_inspect {d : Door} (hl : s.locker? n = some l) (hv : l.state = .verify) (ha : l.action = none)
    (hh : l.holder = none) : s.lockerStatus n (d, .thrown) =
      let w := noticed (withLocker s n { l with door := d, bolt := .thrown, state := .inspect }) .inspect (.locker n)
        (.cause .found)
      if d = .opened then noticed w .forcedDoor (.locker n) (.lockerState .inspect) else w := by
  have hr : resolved l.holder.isSome .thrown = .inspect := by rw [hh]; rfl
  have hkept : ({ l with door := d, bolt := .thrown, state := .inspect, holder := none } : Locker)
      = { l with door := d, bolt := .thrown, state := .inspect } := by rw [← hh]
  rw [lockerStatus_of_verify hl hv ha, resolve_inspect (locker?_withLocker ..) hr, withLocker_withLocker, hkept,
    resolvedOpen_of_locker ((locker?_noticed ..).trans (locker?_withLocker ..))]
  simp only [or_true, true_and]

/-- A VERIFY locker whose bolt is not known is JAMMED (R85). -/
theorem lockerStatus_jammed {d : Door} (hl : s.locker? n = some l) (hv : l.state = .verify) (ha : l.action = none) :
    s.lockerStatus n (d, .unknown) =
      noticed (withLocker s n { l with door := d, bolt := .unknown, state := .jammed }) .jammed (.locker n) .found := by
  have hr : resolved l.holder.isSome .unknown = .jammed := by cases l.holder.isSome <;> rfl
  rw [lockerStatus_of_verify hl hv ha, resolve_jammed (locker?_withLocker ..) hr, withLocker_withLocker,
    resolvedOpen_of_locker ((locker?_noticed ..).trans (locker?_withLocker ..))]
  simp only [reduceCtorEq, or_self, false_and, if_false]

end LockerStatus

/-! ### A cabin's status wait (R119) -/

section Wait
variable {s : State} {n : Fin 64} {c : Cabin} {b : Bolt}

/-- A status wait acted on: by its kind, the evacuation flag, the bolt and the door. -/
theorem actOnWait_of_cabin (hc : s.cabin? n = some c) :
    let u := withCabin s n { c with statusWait := .nothing }
    (c.statusWait = .nothing → s.actOnWait n b = u)
    ∧ (c.statusWait = .reopen → s.actOnWait n b = if s.clock.evacuation = true then u.evacuateIdle n
        else if b = .thrown ∧ c.door = .shut then u.freeUp n else u.handReset n)
    ∧ (c.statusWait = .reset → s.actOnWait n b = if c.action.isSome = true then u
        else if (c.state = .vacating ∧ c.door ≠ .opened) ∨ c.state = .evacuated then u.handReset n else u) := by
  unfold State.actOnWait
  rw [hc]
  dsimp only
  refine ⟨fun hw => ?_, fun hw => ?_, fun hw => ?_⟩
  · rw [hw]; rfl
  · rw [hw]; rfl
  · rw [hw]; rfl

theorem withCabin_withCabin (s : State) (n : Fin 64) (x y : Cabin) :
    withCabin (withCabin s n x) n y = withCabin s n y := State.putCabin_putCabin s n x y

theorem cabin?_withCabin (s : State) (n : Fin 64) (x : Cabin) : (withCabin s n x).cabin? n = some x :=
  State.cabin?_putCabin_self s n x

theorem evacuateIdle_of_cabin (hc : s.cabin? n = some c) : s.evacuateIdle n =
    (withCabin s n { c with state := .evacuated }).handOver (.cabin n) .retract .evac none none false := by
  rw [State.evacuateIdle, State.modCabin_of s hc]
  rfl

end Wait

end Sys2Proof.Machine

namespace Sys2Proof.Proofs
open Sys2Proof Sys2Proof.Machine Sys2Proof.Claims

/-- Settles O59: the match with the enrolment, then what each door's report leaves. -/
theorem statusResult : Obligations.StatusResult := by
  intro s sp a ty doors row it online
  refine ⟨fun halive hidle => ?_, fun e hrep => ?_, fun n l d b hl hv ha => ?_, fun n l d b hl hv => ?_,
    fun n c b hc => ?_⟩
  · have hlead := leads_of_item (i := row) halive rfl
    rwa [matchStatus_of_inactive (s := counted s) hidle] at hlead
  · have hlead := leads_of_item (i := row) hrep.1 rfl
    have hfrom := reportsFrom_of_reports hrep
    refine ⟨fun hne => ?_, fun hty hlen => ?_⟩
    · rwa [matchStatus_of_mismatch hfrom hne] at hlead
    · rw [matchStatus_of_match hfrom hty hlen] at hlead
      refine ⟨fun he => ?_, ?_, ?_⟩
      · cases e with
        | kiosk | exit => exact hlead
        | lock | cabin => simp [Enrolment.type] at he
      · rintro n d b rfl rfl
        exact hlead
      · rintro k rfl -
        exact hlead
  · intro u v
    refine ⟨fun hh hb => ?_, fun hh hb => ?_, fun hh hb => ?_, fun hh hb => ?_, fun hb => ?_⟩
    · subst hb
      have hr : resolved l.holder.isSome .thrown = .locked := by rw [Option.isSome_iff_ne_none.mpr hh]; rfl
      rw [lockerStatus_resolved hl hv ha hr (by decide) (by decide)]
      simp only [true_and]
      rfl
    · subst hb
      have hr : resolved l.holder.isSome .retracted = .released := by rw [Option.isSome_iff_ne_none.mpr hh]; rfl
      exact (lockerStatus_resolved hl hv ha hr (by decide) (by decide)).trans (if_neg (by simp))
    · subst hb
      have hr : resolved l.holder.isSome .retracted = .vacant := by rw [hh]; rfl
      exact (lockerStatus_resolved hl hv ha hr (by decide) (by decide)).trans (if_neg (by simp))
    · subst hb
      exact lockerStatus_inspect hl hv ha hh
    · subst hb
      exact lockerStatus_jammed hl hv ha
  · exact lockerStatus_of_settled hl hv d
  · intro u
    obtain ⟨hnothing, hreopen, hreset⟩ := actOnWait_of_cabin (b := b) hc
    have hu : u.cabin? n = some { c with statusWait := .nothing } := cabin?_withCabin ..
    refine ⟨hnothing, fun hw he hb hd => ?_, fun hw he hnot => ?_, fun hw he => ?_, fun hw ha hst => ?_, fun hw hno => ?_⟩
    · rw [hreopen hw, if_neg (by simp [he]), if_pos ⟨hb, hd⟩, freeUp_of_cabin hu he, withCabin_withCabin]
    · rw [hreopen hw, if_neg (by simp [he]), if_neg fun ⟨hb, hd⟩ => hnot.elim (absurd hb) (absurd hd)]
      rfl
    · rw [hreopen hw, if_pos he, evacuateIdle_of_cabin hu, withCabin_withCabin]
    · rw [hreset hw, if_neg (by simp [ha]), if_pos hst]
      rfl
    · rw [hreset hw]
      rcases hno with ha | ⟨hs, hd⟩
      · rw [if_pos (Option.isSome_iff_ne_none.mpr ha)]
      · rw [if_neg (c := _ ∨ _) (by simp [hs, hd]), ite_self]

end Sys2Proof.Proofs

/-! ## Taps at a kiosk (05 R88 to R94) -/

namespace Sys2Proof.Machine
open Sys2Proof.Claims

/-! ### The search (R91) -/

/-- In the canonical form the numbers listed rise. -/
theorem Table.pairwise_lt_keysBelow {α : Type} {m lo : Nat} {t : List (Nat × α)} (hw : Table.wfFrom lo t = true) :
    (t.filterMap (fun e => below m e.1)).Pairwise (· < ·) := by
  have hkeys : t.Pairwise (fun e e' => e.1 < e'.1) := by
    induction t generalizing lo with
    | nil => exact .nil
    | cons e rest ih =>
      obtain ⟨-, hrest⟩ : lo ≤ e.1 ∧ Table.wfFrom (e.1 + 1) rest = true := by simpa [Table.wfFrom] using hw
      exact .cons (fun e' he' => Table.le_of_mem hrest he') (ih hrest)
  refine List.pairwise_filterMap.mpr (hkeys.imp fun hlt i hi j hj => ?_)
  rwa [below_eq_some_iff.mp hi, below_eq_some_iff.mp hj] at hlt

/-- The least entry of a rising list heads it. -/
theorem head?_of_least {m : Nat} {l : List (Fin m)} {n : Fin m} (hl : l.Pairwise (· < ·)) (hn : n ∈ l)
    (hmin : ∀ k ∈ l, n ≤ k) : l.head? = some n := by
  cases l with
  | nil => simp at hn
  | cons k l =>
    rcases List.mem_cons.mp hn with rfl | hmem
    · rfl
    · exact absurd (List.rel_of_pairwise_cons hl hmem) (Fin.not_lt.mpr (hmin k List.mem_cons_self))

section Search
variable {s : State} {z : Fin 16} {n : Fin 1024}

theorem offers_iff : s.offers z n = true ↔ Offered s z n := by
  simp [State.offers, Offered, Option.any_eq_true, and_assoc]

/-- The lockers the search may choose, ascending. -/
def State.offered (s : State) (z : Fin 16) : List (Fin 1024) := s.lockerNumbers.filter (s.offers z)

theorem mem_offered_iff : n ∈ s.offered z ↔ Offered s z n := by
  rw [State.offered, List.mem_filter, offers_iff]
  exact and_iff_right_of_imp fun ⟨_, hl, _⟩ => Table.mem_keysBelow_of_get? hl

theorem sorted_offered (hw : Table.wf s.lockers = true) : (s.offered z).Pairwise (· < ·) :=
  (Table.pairwise_lt_keysBelow hw).filter _

theorem searchLocker_of_pack (hm : (s.zones[z]).mode = .pack) : s.searchLocker z = (s.offered z).head? := by
  rw [State.searchLocker, hm]
  rfl

/-- In ROTATE the offered lockers above the rotor come first. -/
theorem searchLocker_of_rotate (hm : (s.zones[z]).mode = .rotate) : s.searchLocker z =
    ((s.offered z).filter (fun k => decide (s.rotors[z] < k))).head?.or (s.offered z).head? := by
  rw [State.searchLocker, hm, State.offered, List.head?_filter (l := s.lockerNumbers.filter _)]

theorem searchLocker_of_none (h : ∀ n, ¬Offered s z n) : s.searchLocker z = none := by
  have hnil : s.offered z = [] := List.eq_nil_iff_forall_not_mem.mpr fun n => mt mem_offered_iff.mp (h n)
  cases hm : (s.zones[z]).mode with
  | pack => rw [searchLocker_of_pack hm, hnil]; rfl
  | rotate => rw [searchLocker_of_rotate hm, hnil]; rfl

/-- The search finds the locker R91 chooses. -/
theorem searchLocker_of_chosen (hw : Table.wf s.lockers = true) (h : Chosen s z n) : s.searchLocker z = some n := by
  obtain ⟨hoff, hmode⟩ := h
  have hn : n ∈ s.offered z := mem_offered_iff.mpr hoff
  cases hm : (s.zones[z]).mode with
  | pack =>
    rw [hm] at hmode
    rw [searchLocker_of_pack hm]
    exact head?_of_least (sorted_offered hw) hn fun k hk => hmode k (mem_offered_iff.mp hk)
  | rotate =>
    rw [hm] at hmode
    rw [searchLocker_of_rotate hm]
    rcases hmode with ⟨habove, hleast⟩ | hnone
    · have hhead : ((s.offered z).filter (fun k => decide (s.rotors[z] < k))).head? = some n := by
        have hmem : n ∈ (s.offered z).filter (fun k => decide (s.rotors[z] < k)) :=
          List.mem_filter.mpr ⟨hn, decide_eq_true habove⟩
        refine head?_of_least ((sorted_offered hw).filter _) hmem fun k hk => ?_
        obtain ⟨hk, hlt⟩ := List.mem_filter.mp hk
        exact hleast k (mem_offered_iff.mp hk) (of_decide_eq_true hlt)
      rw [hhead, Option.some_or]
    · have hnil : (s.offered z).filter (fun k => decide (s.rotors[z] < k)) = [] :=
        List.filter_eq_nil_iff.mpr fun k hk hlt =>
          absurd (of_decide_eq_true hlt) (Fin.not_lt.mpr (hnone k (mem_offered_iff.mp hk)).1)
      have hhead := head?_of_least (sorted_offered hw) hn fun k hk => (hnone k (mem_offered_iff.mp hk)).2
      rw [hnil, List.head?_nil, Option.none_or, hhead]

end Search

/-! ### The watches leave the search as it is -/

section Watched
variable (s : State) (t : Tap) (e : Enrolment) (p : Bool)

@[simp] theorem watched_rotors : (watched s t e p).rotors = s.rotors :=
  watched_keeps s t e p (f := State.rotors) fun _ _ _ => rfl

@[simp] theorem watched_now : (watched s t e p).now = s.now :=
  watched_keeps s t e p (f := State.now) fun _ _ _ => rfl

@[simp] theorem watched_searchLocker (z : Fin 16) : (watched s t e p).searchLocker z = s.searchLocker z :=
  watched_keeps s t e p (f := (State.searchLocker · z)) fun _ _ _ => rfl

end Watched

/-! ### Two places asked for together (R92, R142) -/

theorem writeReserve?_of_full {s : State} {b : RecordBody} (h : 126 < s.queue.sum) : s.writeReserve? b = none :=
  if_neg fun hroom => absurd hroom (by unfold Config.recordPlaces; omega)

theorem writeReserve?_of_room {s : State} {b : RecordBody} (h : s.queue.sum ≤ 126) :
    s.writeReserve? b = some (reserved (written s b)) :=
  if_pos (by unfold Config.recordPlaces; omega)

section Kiosk
variable {s : State} {t : Tap} {z : Fin 16} {n : Fin 1024} {l : Locker} {slot : Nat} {b : Band}

/-! ### NUMBER shown, and the strikes cleared (R10, R89, R93) -/

/-- The answer of a tap writes a command list, the grant a band's record: they commute. -/
theorem grant_answerTap (hb : s.band? slot = some b) (x : Signal) :
    (s.answerTap t x).grant slot = shown (withBand s slot { b with strikes := 0 }) t x := by
  have hcomm : ∀ b', (s.answerTap t x).putBand slot b' = shown (withBand s slot b') t x := by
    intro b'
    unfold State.answerTap State.answer shown State.place State.modHead
    rw [show (withBand s slot b').head? t.spur t.address = s.head? t.spur t.address from rfl]
    cases s.head? t.spur t.address <;> rfl
  have hband : (s.answerTap t x).band? slot = some b := by
    obtain ⟨v, hv⟩ := s.modHead_only t.spur t.address (·.place (.showAt t.reader x))
    rw [State.answerTap, State.answer, State.place, hv]
    exact hb
  rw [State.grant, State.modBand_of _ hband, hcomm]

/-! ### The allocation (R93) -/

/-- The acquire step for a locker that has just been reserved (R5). -/
theorem acquire_putLocker (hb : s.band? slot = some b) (hlen : b.holdings.length < 2) :
    (s.putLocker n l).acquire slot b n
      = (s.putBand slot { b with holdings := b.holdings ++ [n] }).putLocker n { l with holder := some b.serial } := by
  have hlocker : ((s.putLocker n l).putBand slot { b with holdings := b.holdings ++ [n] }).locker? n = some l :=
    State.locker?_putLocker_self s n l
  rw [State.acquire, if_pos hlen, State.modBand_of (s.putLocker n l) hb, State.modLocker_of _ hlocker]
  simp [State.putBand, State.putLocker]

/-- A locker RESERVED for a band until the zone's window has passed; in ROTATE the rotor follows. -/
def State.allotted (s : State) (z : Fin 16) (n : Fin 1024) (l : Locker) (slot : Nat) (b : Band) : State :=
  { withLocker (withBand s slot { b with holdings := b.holdings ++ [n] }) n
      { l with state := .reserved, holder := some b.serial,
               reserveDeadline := some (s.now + (s.zones[z]).window * 1000) } with
    rotors := if (s.zones[z]).mode = .rotate then s.rotors.set z.val n else s.rotors }

theorem grant_allotted : (State.answerTap (s.allotted z n l slot b) t (.number n.val)).grant slot
    = shown (s.allotted z n l slot { b with strikes := 0 }) t (.number n.val) := by
  have hband : (s.allotted z n l slot b).band? slot = some { b with holdings := b.holdings ++ [n] } :=
    Table.get?_put_self ..
  rw [grant_answerTap hband]
  simp [State.allotted, withBand, withLocker]

/-- An allocation of a locker that exists allots it, shows its number and clears the strikes. -/
theorem allocate_of_locker (hb : s.band? slot = some b) (hl : s.locker? n = some l) (hlen : b.holdings.length < 2) :
    s.allocate t z n slot b = shown (s.allotted z n l slot { b with strikes := 0 }) t (.number n.val) := by
  rw [← grant_allotted]
  unfold State.allocate
  rw [State.modLocker_of s hl]
  dsimp only
  rw [acquire_putLocker hb hlen]
  unfold State.allotted
  cases (s.zones[z]).mode <;> rfl

/-- An allotment reads the moment, the zone and the rotors alone. -/
theorem allotted_eq {u : State} (hnow : u.now = s.now) (hzones : u.zones = s.zones) (hrotors : u.rotors = s.rotors) :
    u.allotted z n l slot b =
      { withLocker (withBand u slot { b with holdings := b.holdings ++ [n] }) n
          { l with state := .reserved, holder := some b.serial,
                   reserveDeadline := some (s.now + (s.zones[z]).window * 1000) } with
        rotors := if (s.zones[z]).mode = .rotate then s.rotors.set z.val n else s.rotors } := by
  simp only [State.allotted, hnow, hzones, hrotors]

/-- Two places are asked for; with both the locker is allocated, else the tap waits (R92). -/
theorem writeReserve?_allocate (hb : s.band? slot = some b) (hl : s.locker? n = some l) (hlen : b.holdings.length < 2)
    (r : RecordBody) : (s.writeReserve? r).elim (shown s t .amber) (·.allocate t z n slot b) =
      if 126 < s.queue.sum then shown s t .amber
      else shown ((reserved (written s r)).allotted z n l slot { b with strikes := 0 }) t (.number n.val) := by
  split
  · next hfull => rw [writeReserve?_of_full hfull, Option.elim_none]
  · next hroom =>
    rw [writeReserve?_of_room (Nat.not_lt.mp hroom), Option.elim_some]
    exact allocate_of_locker (s := reserved (written s r)) hb hl hlen

/-! ### The decision (R88 to R92) -/

/-- The kiosk's checks in their order: the zone, an existing reservation, the hold limit, the search, two places. -/
theorem decideKiosk_eq (hb : s.band? slot = some b) : s.decideKiosk t z slot b =
    if (s.zones[z]).intake = 0 ∨ (s.zones[z]).intake = 1 ∧ (s.classes[b.cls]).staff = false
      then shown s t (.red .zoneShut 0)
    else if (s.zones[z]).classMask.getLsbD b.cls.val = false then shown s t (.red .classExcluded 0)
    else (s.reservedIn z b).elim
      (if min 2 (max 1 (s.classes[b.cls]).holdLimit) ≤ b.holdings.length then shown s t (.red .limit 0)
        else (s.searchLocker z).elim (shown s t (.red .noFree 0)) fun n =>
          (s.writeReserve? (.reserve n b.serial (s.zones[z]).window)).elim (shown s t .amber)
            (·.allocate t z n slot b))
      fun n => shown (withBand s slot { b with strikes := 0 }) t (.number n.val) := by
  unfold State.decideKiosk
  refine ite_congr rfl (fun _ => rfl) fun _ => ite_congr rfl (fun _ => rfl) fun _ => ?_
  cases s.reservedIn z b with
  | some n => exact grant_answerTap hb _
  | none =>
    refine ite_congr rfl (fun _ => rfl) fun _ => ?_
    cases s.searchLocker z with
    | none => rfl
    | some n =>
      dsimp only [Option.elim]
      cases s.writeReserve? (.reserve n b.serial (s.zones[z]).window) <;> rfl

theorem tapKiosk_of_passed {u : State} (h : s.front t .kiosk none = .passed u slot b) :
    s.tapKiosk t z = u.decideKiosk t z slot b := by
  rw [State.tapKiosk, h]

/-- A tap that passes the front at a KIOSK head is resolved by the kiosk decision. -/
theorem resolves_decideKiosk (h : Passes s t (.kiosk z) slot b) :
    Resolves s t (.kiosk z) ((watched s t (.kiosk z) true).decideKiosk t z slot b) :=
  resolves_of_arrives (arrives_of_passes h) (tapKiosk_of_passed (s := counted s) (front_of_passes h))

end Kiosk

end Sys2Proof.Machine

namespace Sys2Proof.Proofs
open Sys2Proof Sys2Proof.Machine Sys2Proof.Claims

/-- Settles O50: the kiosk's checks in their order, then the allocation of the locker the search chooses. -/
theorem kioskTapResult : Obligations.KioskTapResult := by
  intro s t z slot b hp hcanon e w zone old
  obtain ⟨-, hlockers, -⟩ := hcanon
  have hb : w.band? slot = some b := (watched_band? ..).trans (band?_of_present (present_of_passes hp))
  have hold : w.reservedIn z b = old := by simp only [State.reservedIn, w, watched_locker?, old]
  have hwl : ∀ n, w.locker? n = s.locker? n := watched_locker? s t e true
  have hqueue : w.queue = s.queue := watched_queue ..
  have hnow : w.now = s.now := watched_now ..
  have hzones : w.zones = s.zones := watched_zones ..
  have hrotors : w.rotors = s.rotors := watched_rotors ..
  have hclasses : w.classes = s.classes := watched_classes ..
  have hsearch : w.searchLocker z = s.searchLocker z := watched_searchLocker ..
  have hshow : ∀ x, Resolves s t e (shown w t x) → Shows s t e x := fun _ h => h
  have base : Resolves s t e (w.decideKiosk t z slot b) := resolves_decideKiosk hp
  clear_value w
  rw [decideKiosk_eq hb, hold, hzones, hclasses, hsearch] at base
  split
  · next hshut => exact hshow _ (by rwa [if_pos hshut] at base)
  next hopen =>
  rw [if_neg hopen] at base
  split
  · next hmask => exact hshow _ (by rwa [if_pos hmask] at base)
  next hmask =>
  rw [if_neg hmask] at base
  refine ⟨fun n hn => ?_, fun hnone => ?_⟩
  · rwa [hn, Option.elim_some] at base
  rw [hnone, Option.elim_none] at base
  split
  · next hlimit => exact hshow _ (by rwa [if_pos hlimit] at base)
  next hlimit =>
  rw [if_neg hlimit] at base
  refine ⟨fun hfree => hshow _ ?_, fun n l hn hl => ?_⟩
  · rwa [searchLocker_of_none hfree, Option.elim_none] at base
  rw [searchLocker_of_chosen hlockers hn, Option.elim_some,
    writeReserve?_allocate hb ((hwl n).trans hl) (by omega), hqueue] at base
  refine ⟨fun hfull => hshow _ ?_, fun hroom => ?_⟩
  · rwa [if_pos hfull] at base
  · rwa [if_neg (Nat.not_lt.mpr hroom), allotted_eq (s := s) (u := reserved (written w _)) hnow hzones hrotors] at base

end Sys2Proof.Proofs

/-! ## The deadlines of lockers and cabins, and the lamp (05 R95, 06 R107, R110, R111, R115) -/

namespace Sys2Proof.Machine
open Sys2Proof.Claims

/-! ### The lamp (R111) -/

section Lamp
variable {c : Cabin} {now : Nat}

/-- An occupied cabin's lamp burns steadily above the latched warning and blinks from there on. -/
theorem pattern_of_occupied (h : c.state = .occupied) :
    c.pattern now = if c.latched.warning < c.remainingAt now then .steady else c.latched.pattern := by
  rw [Cabin.pattern, h]

theorem pattern_of_overtime (h : c.state = .overtime) : c.pattern now = c.latched.pattern := by
  rw [Cabin.pattern, h]

theorem pattern_of_idle (ho : c.state ≠ .occupied) (hv : c.state ≠ .overtime) : c.pattern now = .off := by
  unfold Cabin.pattern
  split
  · next h => exact absurd h ho
  · next h => exact absurd h hv
  · rfl

/-! ### The counts (R110) -/

theorem remainingAt_of_stopped (h : c.expiryAt = none) : c.remainingAt now = c.remaining := by
  rw [Cabin.remainingAt, h]

theorem remainingAt_of_running {m : Nat} (h : c.expiryAt = some m) : c.remainingAt now = secondsLeft now m := by
  rw [Cabin.remainingAt, h]

theorem overtimeAt_of_stopped (h : c.overtimeSince = none) : c.overtimeAt now = c.overtime := by
  rw [Cabin.overtimeAt, h]

theorem overtimeAt_of_running {m : Nat} (h : c.overtimeSince = some m) :
    c.overtimeAt now = min ((now - m) / 1000) 65535 := by
  rw [Cabin.overtimeAt, h]

end Lamp

section LampItem
variable {s : State} {n : Fin 64} {c : Cabin}

theorem placeLamp_of_absent (h : s.cabin? n = none) : s.placeLamp n = s := by
  rw [State.placeLamp, h]

theorem placeLamp_of_cabin (h : s.cabin? n = some c) : s.placeLamp n =
    (withCabin s n { c with lamp := c.pattern s.now }).place c.spur c.address (.lamp (c.pattern s.now)) := by
  rw [State.placeLamp, h]
  rfl

theorem followLamp_of_absent (h : s.cabin? n = none) : s.followLamp n = s := by
  rw [State.followLamp, h]

/-- LAMP is placed where the pattern is not the one last placed. -/
theorem followLamp_of_cabin (h : s.cabin? n = some c) :
    s.followLamp n = if c.pattern s.now = c.lamp then s else s.placeLamp n := by
  rw [State.followLamp, h]

end LampItem

/-! ### The rows of the deadlines -/

section Rows
variable {s u : State}

theorem exec_reserveDeadline {n : Fin 1024} (h : (counted s).lapseReservation n = u) :
    exec (.reserveDeadline n) s = .next u.arbitrate := h ▸ rfl

theorem exec_entryDeadline {n : Fin 64} (h : (counted s).expireEntry n = u) :
    exec (.entryDeadline n) s = .next u.arbitrate := h ▸ rfl

theorem exec_warningPoint {n : Fin 64} (h : (counted s).reachWarning n = u) :
    exec (.warningPoint n) s = .next u.arbitrate := h ▸ rfl

theorem exec_occupancyExpiry {n : Fin 64} (h : (counted s).expireOccupancy n = u) :
    exec (.occupancyExpiry n) s = .next u.arbitrate := h ▸ rfl

theorem exec_callDeadline {n : Fin 64} (h : (counted s).expireCall n = u) :
    exec (.callDeadline n) s = .next u.arbitrate := h ▸ rfl

end Rows

/-! ### The reserve deadline (R95) -/

section Reservation
variable {s : State} {n : Fin 1024}

/-- A reserve deadline that was cancelled does nothing. -/
theorem lapseReservation_of_cancelled (h : ∀ l, s.locker? n = some l → l.reserveDeadline = none) :
    s.lapseReservation n = s := by
  unfold State.lapseReservation
  cases hl : s.locker? n with
  | none => rfl
  | some l => dsimp only; rw [h l hl]

/-- A reservation that lapses leaves its band's list, frees the locker and turns its place into RESERVE_LAPSED. -/
theorem lapseReservation_of_reserved {l : Locker} {m slot : Nat} {b : Band} (hl : s.locker? n = some l)
    (hs : l.state = .reserved) (ha : l.action = none) (hd : l.reserveDeadline = some m)
    (hh : l.holder = some b.serial) (hp : Present s b.serial slot b) (hr : 0 < s.queue.reserved) :
    s.lapseReservation n = converted
      (withLocker (withBand (s.passTo m) slot { b with holdings := b.holdings.erase n }) n
        { l with state := .vacant, holder := none, reserveDeadline := none }) (.reserveLapsed n (some b.serial)) := by
  unfold State.lapseReservation
  rw [hl]
  dsimp only
  rw [hd]
  dsimp only
  rw [if_pos ⟨hs, ha⟩, releaseLocker_of_holder (s := s.passTo m) hp hl hh,
    State.modLocker_of _ (State.locker?_putLocker_self ..), State.putLocker_putLocker, hh]
  exact State.convert_of_pos hr

end Reservation

/-! ### The deadlines of a cabin (R107, R110, R115) -/

section CabinDeadlines
variable {s : State} {n : Fin 64} {c : Cabin} {m : Nat}

theorem expireEntry_of_cancelled (h : ∀ c, s.cabin? n = some c → c.entryDeadline = none) : s.expireEntry n = s := by
  unfold State.expireEntry
  cases hc : s.cabin? n with
  | none => rfl
  | some c => dsimp only; rw [h c hc]

theorem reachWarning_of_cancelled (h : ∀ c, s.cabin? n = some c → c.warningAt = none) : s.reachWarning n = s := by
  unfold State.reachWarning
  cases hc : s.cabin? n with
  | none => rfl
  | some c => dsimp only; rw [h c hc]

theorem expireOccupancy_of_cancelled (h : ∀ c, s.cabin? n = some c → c.expiryAt = none) : s.expireOccupancy n = s := by
  unfold State.expireOccupancy
  cases hc : s.cabin? n with
  | none => rfl
  | some c => dsimp only; rw [h c hc]

theorem expireCall_of_cancelled (h : ∀ c, s.cabin? n = some c → c.callDeadline = none) : s.expireCall n = s := by
  unfold State.expireCall
  cases hc : s.cabin? n with
  | none => rfl
  | some c => dsimp only; rw [h c hc]

theorem running_iff : c.running = true ↔ c.state = .occupied ∨ c.state = .overtime := by
  simp [Cabin.running]

/-- A cabin vacated stops its counts, and its lamp follows (R107, R108). -/
theorem vacate_of_cabin (hc : s.cabin? n = some c) :
    s.vacate n = (withCabin s n { halted c s.now with state := .vacating }).followLamp n := by
  rw [State.vacate, State.modCabin_of s hc]
  rfl

/-- An entry not made in time: VACATING, and a RESET unless the door is OPEN (R107). -/
theorem expireEntry_of_due (hc : s.cabin? n = some c) (hd : c.entryDeadline = some m)
    (hs : c.state = .occupied ∨ c.state = .overtime) (hp : c.phase = .outside) :
    s.expireEntry n =
      let u := (withCabin (s.passTo m) n { halted c (max s.now m) with state := .vacating }).followLamp n
      if c.door = .opened then u else u.handOver (.cabin n) .throw .reset none none false := by
  unfold State.expireEntry
  rw [hc]
  dsimp only
  rw [hd]
  dsimp only
  rw [if_pos ⟨running_iff.mpr hs, hp⟩, vacate_of_cabin (s := s.passTo m) hc]
  rfl

/-- The warning point: the lamp follows the remaining seconds (R110, R111). -/
theorem reachWarning_of_due (hc : s.cabin? n = some c) (hd : c.warningAt = some m) (hs : c.state = .occupied) :
    s.reachWarning n = (withCabin (s.passTo m) n { c with warningAt := none }).followLamp n := by
  unfold State.reachWarning
  rw [hc]
  dsimp only
  rw [hd]
  dsimp only
  rw [if_pos hs, State.modCabin_of (s.passTo m) hc]
  rfl

/-- The expiry: OVERTIME counted from the moment, CABIN_OVERSTAY, and the lamp (R110). -/
theorem expireOccupancy_of_due (hc : s.cabin? n = some c) (hd : c.expiryAt = some m) (hs : c.state = .occupied) :
    s.expireOccupancy n = (noticed (withCabin (s.passTo m) n { c with
        state := .overtime, remaining := 0, warningAt := none, expiryAt := none, overtime := 0,
        overtimeSince := some (max s.now m) }) .cabinOverstay (.cabin n) (.extensions c.extensions)).followLamp n := by
  unfold State.expireOccupancy
  rw [hc]
  dsimp only
  rw [hd]
  dsimp only
  rw [if_pos hs, State.modCabin_of (s.passTo m) hc]
  rfl

/-- A call not answered in time lapses (R115). -/
theorem expireCall_of_due (hc : s.cabin? n = some c) (hd : c.callDeadline = some m) (hs : c.state = .called) :
    s.expireCall n = (s.passTo m).lapseCall n := by
  unfold State.expireCall
  rw [hc]
  dsimp only
  rw [hd]
  exact if_pos hs

end CabinDeadlines

end Sys2Proof.Machine

namespace Sys2Proof.Proofs
open Sys2Proof Sys2Proof.Machine Sys2Proof.Claims

/-- Settles O60: the lamp by the cabin's state, then each deadline, cancelled or due. -/
theorem deadlinesResult : Obligations.DeadlinesResult := by
  refine ⟨fun c now => ⟨fun hs hw => ?_, fun hs hw => ?_, pattern_of_overtime, pattern_of_idle, remainingAt_of_stopped,
      fun m => remainingAt_of_running, overtimeAt_of_stopped, fun m => overtimeAt_of_running⟩,
    fun s n => ⟨fun h => ⟨placeLamp_of_absent h, followLamp_of_absent h⟩, fun c hc => ⟨placeLamp_of_cabin hc,
      fun hl => ?_, fun hl => ?_⟩⟩,
    fun s hcanon => ⟨fun n => ⟨fun h => ?_, fun l m y slot b hl hs ha hd hh hp hr => ?_⟩, fun n => ⟨fun h => ?_,
      fun c hc => ?_⟩⟩⟩
  · rw [pattern_of_occupied hs, if_pos hw]
  · rw [pattern_of_occupied hs, if_neg (Nat.not_lt.mpr hw)]
    rfl
  · rw [followLamp_of_cabin hc, if_pos hl]
  · rw [followLamp_of_cabin hc, if_neg hl]
  · exact exec_reserveDeadline (lapseReservation_of_cancelled (s := counted s) h)
  · obtain rfl : b.serial = y := (mem_of_findBand hp.2).2
    exact exec_reserveDeadline (lapseReservation_of_reserved (s := counted s) hl hs ha hd hh hp hr)
  · have habsent : ∀ {p : Cabin → Prop} c, (counted s).cabin? n = some c → p c := fun c hc =>
      absurd (hc.symm.trans h) (Option.some_ne_none c)
    simp only [List.forall_mem_cons]
    exact ⟨exec_entryDeadline (expireEntry_of_cancelled habsent), exec_warningPoint (reachWarning_of_cancelled habsent),
      exec_occupancyExpiry (expireOccupancy_of_cancelled habsent), exec_callDeadline (expireCall_of_cancelled habsent),
      List.forall_mem_nil _⟩
  · have honly : ∀ {p : Cabin → Prop}, p c → ∀ c', (counted s).cabin? n = some c' → p c' := fun hp c' hc' =>
      Option.some.inj (hc.symm.trans hc') ▸ hp
    refine ⟨fun h => exec_entryDeadline (expireEntry_of_cancelled (honly h)),
      fun h => exec_warningPoint (reachWarning_of_cancelled (honly h)),
      fun h => exec_occupancyExpiry (expireOccupancy_of_cancelled (honly h)),
      fun h => exec_callDeadline (expireCall_of_cancelled (honly h)),
      fun m hd hs hp => exec_entryDeadline (expireEntry_of_due (s := counted s) hc hd hs hp),
      fun m hd hs => exec_warningPoint (reachWarning_of_due (s := counted s) hc hd hs),
      fun m hd hs => exec_occupancyExpiry (expireOccupancy_of_due (s := counted s) hc hd hs), fun m hd hs hr he => ?_⟩
    refine exec_callDeadline ((expireCall_of_due (s := counted s) hc hd hs).trans ?_)
    exact lapseCall_of_called (s := timed s m) hcanon.1 hc hs hr he

end Sys2Proof.Proofs

/-! ## The call step and CABIN_SET (06 R113, R120) -/

namespace Sys2Proof.Machine
open Sys2Proof.Claims

/-! ### What a change of a head, of a band or of a lamp leaves -/

/-- An item placed in a list writes the spurs alone. -/
theorem place_only (s : State) (sp : Fin 4) (a : Fin 32) (it : CmdItem) : ∃ v, s.place sp a it = { s with spurs := v } :=
  s.modHead_only sp a _

@[simp] theorem place_cabins (s : State) (sp : Fin 4) (a : Fin 32) (it : CmdItem) :
    (s.place sp a it).cabins = s.cabins := by
  obtain ⟨v, hv⟩ := place_only s sp a it
  rw [hv]

@[simp] theorem place_cabin? (s : State) (sp : Fin 4) (a : Fin 32) (it : CmdItem) (n : Fin 64) :
    (s.place sp a it).cabin? n = s.cabin? n :=
  congrArg (Table.get? n.val) (place_cabins s sp a it)

/-- A lamp that follows writes the cabin entries and the spurs alone. -/
theorem followLamp_only (s : State) (n : Fin 64) : ∃ c v, s.followLamp n = { s with cabins := c, spurs := v } := by
  unfold State.followLamp State.placeLamp
  cases s.cabin? n with
  | none => exact ⟨_, _, rfl⟩
  | some c =>
    dsimp only
    split
    · exact ⟨_, _, rfl⟩
    · obtain ⟨v, hv⟩ := place_only (s.putCabin n { c with lamp := c.pattern s.now }) c.spur c.address
        (.lamp (c.pattern s.now))
      exact ⟨_, v, hv⟩

@[simp] theorem followLamp_queue (s : State) (n : Fin 64) : (s.followLamp n).queue = s.queue := by
  obtain ⟨c, v, h⟩ := followLamp_only s n
  rw [h]

@[simp] theorem followLamp_band? (s : State) (n : Fin 64) (slot : Nat) : (s.followLamp n).band? slot = s.band? slot := by
  obtain ⟨c, v, h⟩ := followLamp_only s n
  rw [h]
  rfl

/-- The record of a present serial is changed in its slot. -/
theorem modSerial_of_present {s : State} {x : Serial} {slot : Nat} {b : Band} (h : Present s x slot b) (f : Band → Band) :
    s.modSerial (some x) f = withBand s slot (f b) := by
  have hmod : s.modSerial (some x) f = s.modBand slot f := by
    rw [State.modSerial, h.2]
  rw [hmod, State.modBand_of s (band?_of_present h)]
  rfl

/-- Operations that are no owner's delete no cabin entry. -/
theorem keptCore_cabinListed (n : Fin 64) : KeptCore (fun s => (s.cabin? n).isSome = true) where
  time h := h
  alerts h := h
  watches h := h
  write e h := by obtain ⟨-, rfl⟩ := State.write?_eq_some.mp e; exact h
  reserve e h := by obtain ⟨-, rfl⟩ := State.reserve?_eq_some.mp e; exact h
  writeReserve e h := by obtain ⟨-, rfl⟩ := State.writeReserve?_eq_some.mp e; exact h
  convert {s b} h := by obtain ⟨q, e⟩ := s.convert_only b; rw [e]; exact h
  release h := h
  putLocker h := h
  putCabin {s m c} h := by
    by_cases hm : n = m
    · rw [hm, State.cabin?_putCabin_self]; rfl
    · rwa [State.cabin?_putCabin_ne s hm]
  rotors h := h
  classQueues h := h
  tickets h := h
  modBand {s slot f} _ h := by unfold State.modBand; split <;> exact h
  dropBand h := h
  modHead {s sp a f} _ h := by obtain ⟨v, e⟩ := s.modHead_only sp a f; rw [e]; exact h
  port _ h := h
  transmit h := h

/-! ### The call step (R113) -/

/-- A cabin called for the entry at the head of its class's queue, on a place already held (R113). -/
def State.callHead (s : State) (n : Fin 64) (c : Cabin) (e : QueueEntry) (rest : List QueueEntry) : State :=
  (((s.putClassQueue c.cls rest).putCabin n
    { c with state := .called, band := some e.serial, ticket := some e.ticket, slot := true,
             callDeadline := some (s.now + (s.cabinClasses[c.cls]).callWindow * 1000), deferred := false }).modSerial
      (some e.serial) (fun b => { b with cabinLink := some ⟨n, .called⟩, queueLink := none })).answer c.spur c.address 0
        (.number e.ticket)

section CallStep
variable {s : State} {n : Fin 64} {c : Cabin}

theorem callStep_of_used (hc : s.cabin? n = some c) (h : c.state ≠ .free) : s.callStep n = s := by
  unfold State.callStep
  rw [hc]
  exact if_pos h

/-- With nobody waiting a FREE cabin stays so. -/
theorem callStep_of_empty (hc : s.cabin? n = some c) (hf : c.state = .free) (hq : s.classQueue c.cls = []) :
    s.callStep n = withCabin s n { c with deferred := false } := by
  unfold State.callStep
  rw [hc]
  dsimp only
  rw [if_neg (not_not_intro hf), hq]
  rfl

/-- With a band waiting the day and the evacuation flag decide, then the place. -/
theorem callStep_of_waiting (hc : s.cabin? n = some c) (hf : c.state = .free) {e : QueueEntry} {rest : List QueueEntry}
    (hq : s.classQueue c.cls = e :: rest) : s.callStep n =
      if s.clock.evacuation = true ∨ s.clock.day ≠ .opened then withCabin s n { c with deferred := false }
      else s.reserve?.elim (withCabin s n { c with deferred := true }) (·.callHead n c e rest) := by
  unfold State.callStep
  rw [hc]
  dsimp only
  rw [if_neg (not_not_intro hf), hq]
  cases s.reserve? <;> rfl

/-- The band called, if it is present, is linked to the cabin and waits no more. -/
theorem callHead_of_present {e : QueueEntry} {rest : List QueueEntry} {slot : Nat} {b : Band}
    (hp : Present s e.serial slot b) : s.callHead n c e rest =
      (withBand (withCabin { s with classQueues := s.classQueues.set c.cls.val rest } n
        { c with state := .called, band := some e.serial, ticket := some e.ticket, slot := true,
                 callDeadline := some (s.now + (s.cabinClasses[c.cls]).callWindow * 1000), deferred := false })
        slot { b with cabinLink := some ⟨n, .called⟩, queueLink := none }).place c.spur c.address
          (.showAt 0 (.number e.ticket)) := by
  rw [State.callHead, modSerial_of_present (s := (s.putClassQueue c.cls rest).putCabin n _) hp]
  rfl

end CallStep

end Sys2Proof.Machine

namespace Sys2Proof.Proofs
open Sys2Proof Sys2Proof.Machine Sys2Proof.Claims

/-- Settles O34: a cabin in use, an empty queue, then the day, the evacuation flag and the place. -/
theorem callStepRule : Obligations.CallStepRule := by
  intro s n c hc
  refine ⟨callStep_of_used hc, callStep_of_empty hc, fun hf q rest hq => ?_⟩
  have hstep := callStep_of_waiting hc hf hq
  refine ⟨fun hshut => ?_, fun he hd hfull => ?_, fun he hd hroom slot b hp => ?_⟩
  · rw [hstep, if_pos hshut]
  · rw [hstep, if_neg (by simp [he, hd]), reserve?_of_full hfull, Option.elim_none]
  · rw [hstep, if_neg (by simp [he, hd]), reserve?_of_room (Nat.not_le.mpr hroom), Option.elim_some]
    exact callHead_of_present (s := reserved s) hp

end Sys2Proof.Proofs

namespace Sys2Proof.Machine
open Sys2Proof.Claims

/-! ### CABIN_SET (R120) -/

theorem carries_cabinRow {a b k m : Byte} : Carries (cabinRow a) (.cabinSet m b k) := by
  intro f
  unfold cabinRow
  split
  · rfl
  split <;> rfl

section CabinSet
variable {s : State} {n : Fin 64} {c : Cabin} {m a k : Byte}

theorem cabinSet_range (h : 63 < m.toNat ∨ a = 0 ∨ 3 < a.toNat ∨ 3 < k.toNat) : s.cabinSet m a k = .refused .range := by
  unfold State.cabinSet
  cases hm : below 64 m.toNat with
  | none => rfl
  | some i =>
    cases hk : below 4 k.toNat with
    | none => rfl
    | some j =>
      have hm63 : ¬63 < m.toNat := fun hbig => by simp [below_of_le hbig] at hm
      have hk3 : ¬3 < k.toNat := fun hbig => by simp [below_of_le hbig] at hk
      exact if_pos ((h.resolve_left hm63).imp_right (·.resolve_right hk3))

/-- With the operands in range the cabin's entry decides, by the action's code. -/
theorem cabinSet_of_range (n : Fin 64) {j : Fin 4} (ha : 1 ≤ a.toNat ∧ a.toNat ≤ 3) (hk : below 4 k.toNat = some j) :
    s.cabinSet (BitVec.ofNat 8 n.val) a k = (s.cabin? n).elim (.refused .notFound) fun c =>
      if a = 1 then s.cabinClose n c else if a = 2 then s.cabinReopen n c else s.cabinReclass n c j := by
  have hcode : ¬(a = 0 ∨ 3 < a.toNat) := by
    rintro (rfl | hbig)
    · exact absurd ha.1 (by decide)
    · omega
  unfold State.cabinSet
  rw [below_byte n (by decide), hk]
  dsimp only
  rw [if_neg hcode]
  cases s.cabin? n <;> rfl

theorem cabinSet_of_cabin (hc : s.cabin? n = some c) :
    s.cabinSet (BitVec.ofNat 8 n.val) 1 0 = s.cabinClose n c
    ∧ s.cabinSet (BitVec.ofNat 8 n.val) 2 0 = s.cabinReopen n c
    ∧ ∀ j : Fin 4, s.cabinSet (BitVec.ofNat 8 n.val) 3 (BitVec.ofNat 8 j.val) = s.cabinReclass n c j := by
  refine ⟨?_, ?_, fun j => ?_⟩
  · rw [cabinSet_of_range n (j := 0) (by decide) rfl, hc]
    rfl
  · rw [cabinSet_of_range n (j := 0) (by decide) rfl, hc]
    rfl
  · rw [cabinSet_of_range n (by decide) (below_byte j (by decide)), hc]
    rfl

theorem cabinReply_of_cabin (hc : s.cabin? n = some c) : s.cabinReply n = .accepted s (.cabinState c.state) := by
  rw [State.cabinReply, hc]

theorem cabinClose_of_used (h : c.state ≠ .free) : s.cabinClose n c = .refused .inUse := if_pos h

theorem cabinClose_of_free (h : c.state = .free) : s.cabinClose n c =
    .accepted (withCabin s n { c with state := .disabled, statusWait := .nothing, deferred := false })
      (.cabinState .disabled) :=
  (if_neg (not_not_intro h)).trans (cabinReply_of_cabin (State.cabin?_putCabin_self ..))

theorem cabinReopen_of_enabled (h : c.state ≠ .disabled) : s.cabinReopen n c = .refused .inUse := if_pos h

theorem cabinReopen_of_moving (h : c.state = .disabled) (ha : c.action ≠ none) : s.cabinReopen n c = .refused .busy :=
  (if_neg (not_not_intro h)).trans (if_pos (Option.isSome_iff_ne_none.mpr ha))

theorem cabinReopen_of_rest (h : c.state = .disabled) (ha : c.action = none) : s.cabinReopen n c =
    .accepted ((withCabin s n { c with statusWait := .reopen }).place c.spur c.address .ident)
      (.cabinState .disabled) := by
  have hcab : ((s.putCabin n { c with statusWait := .reopen }).place c.spur c.address .ident).cabin? n
      = some { c with statusWait := .reopen } := by
    rw [place_cabin?, State.cabin?_putCabin_self]
  rw [State.cabinReopen, if_neg (not_not_intro h), if_neg (by simp [ha]), cabinReply_of_cabin hcab, h]
  rfl

theorem cabinReclass_of_used {j : Fin 4} (hf : c.state ≠ .free) (hd : c.state ≠ .disabled) :
    s.cabinReclass n c j = .refused .inUse :=
  (if_neg hf).trans (if_neg hd)

theorem cabinReclass_of_disabled {j : Fin 4} (h : c.state = .disabled) : s.cabinReclass n c j =
    .accepted (withCabin s n { c with cls := j, deferred := false }) (.cabinState .disabled) := by
  rw [State.cabinReclass, if_neg (by simp [h]), if_pos h, cabinReply_of_cabin (State.cabin?_putCabin_self ..), h]
  rfl

/-- A FREE cabin that changes class runs the call step, and the reply tells its state behind it. -/
theorem cabinReclass_of_free {j : Fin 4} (h : c.state = .free) :
    let u := (withCabin s n { c with cls := j, deferred := false }).callStep n
    ∃ r, u.cabin? n = some r ∧ s.cabinReclass n c j = .accepted u (.cabinState r.state) := by
  intro u
  have hlisted : (u.cabin? n).isSome = true :=
    (keptCore_cabinListed n).callStep (Option.isSome_of_eq_some (cabin?_withCabin s n _))
  obtain ⟨r, hr⟩ := Option.isSome_iff_exists.mp hlisted
  exact ⟨r, hr, (if_pos h).trans (cabinReply_of_cabin hr)⟩

end CabinSet

end Sys2Proof.Machine

namespace Sys2Proof.Proofs
open Sys2Proof Sys2Proof.Machine Sys2Proof.Claims

/-- Settles O33: the operands, the entry, then each action by the cabin's state. -/
theorem cabinSetResult : Obligations.CabinSetResult := by
  intro s hr
  refine ⟨fun m a k hk h => refuses_of_owner hr carries_cabinRow hk (cabinSet_range h), fun n =>
    ⟨fun hnone a k hk ha ha' hk' => refuses_of_owner hr carries_cabinRow hk ?_, fun e he => ?_⟩⟩
  · have habsent : (framed s).cabin? n = none := hnone
    exact (cabinSet_of_range n ⟨ha, ha'⟩ (below_of_lt (by omega))).trans (by rw [habsent]; rfl)
  obtain ⟨hclose, hreopen, hclass⟩ := cabinSet_of_cabin (s := framed s) he
  refine ⟨fun h => ?_, fun h => ?_, fun h => ?_, fun h ha => ?_, fun h ha => ?_, fun k => ⟨fun hf hd => ?_, fun h => ?_,
    fun h => ?_⟩⟩
  · exact refuses_of_owner hr (fun _ => rfl) (.inr rfl) (hclose.trans (cabinClose_of_used h))
  · exact answers_of_owner hr (fun _ => rfl) (.inr rfl) (hclose.trans (cabinClose_of_free h))
  · exact refuses_of_owner hr (fun _ => rfl) (.inr rfl) (hreopen.trans (cabinReopen_of_enabled h))
  · exact refuses_of_owner hr (fun _ => rfl) (.inr rfl) (hreopen.trans (cabinReopen_of_moving h ha))
  · exact answers_of_owner hr (fun _ => rfl) (.inr rfl) (hreopen.trans (cabinReopen_of_rest h ha))
  · exact refuses_of_owner hr (fun _ => rfl) (.inl rfl) ((hclass k).trans (cabinReclass_of_used hf hd))
  · exact answers_of_owner hr (fun _ => rfl) (.inl rfl) ((hclass k).trans (cabinReclass_of_disabled h))
  · obtain ⟨r, hcab, hreclass⟩ := cabinReclass_of_free (s := framed s) (n := n) (j := k) h
    exact ⟨r, hcab, answers_of_owner hr (fun _ => rfl) (.inl rfl) ((hclass k).trans hreclass)⟩

end Sys2Proof.Proofs

/-! ## Taps at the readers of a cabin (06 R103, R104, R110, R112) -/

namespace Sys2Proof.Machine
open Sys2Proof.Claims

/-! ### The watches leave the decision as it is -/

section Watched
variable (s : State) (t : Tap) (e : Enrolment) (p : Bool)

@[simp] theorem watched_cabins : (watched s t e p).cabins = s.cabins :=
  watched_keeps s t e p (f := State.cabins) fun _ _ _ => rfl

@[simp] theorem watched_classQueues : (watched s t e p).classQueues = s.classQueues :=
  watched_keeps s t e p (f := State.classQueues) fun _ _ _ => rfl

@[simp] theorem watched_tickets : (watched s t e p).tickets = s.tickets :=
  watched_keeps s t e p (f := State.tickets) fun _ _ _ => rfl

@[simp] theorem watched_cabin? (n : Fin 64) : (watched s t e p).cabin? n = s.cabin? n :=
  congrArg (Table.get? n.val) (watched_cabins s t e p)

theorem callable_watched (k : Fin 4) (n : Fin 64) : Callable (watched s t e p) k n ↔ Callable s k n := by
  simp only [Callable, watched_cabin?]

end Watched

/-! ### Admission (R104) -/

section Admission
variable {s : State} {n : Fin 64} {c : Cabin} {slot : Nat} {b : Band}

/-- The record in the slot is admitted, as its serial is. -/
theorem letIn_of_band {x : Band} (hb : s.band? slot = some b) (hx : x.serial = b.serial) :
    s.letIn n c slot x = admitted s n c slot b := by
  have hput : ∀ c, (s.putCabin n c).band? slot = some b := fun _ => hb
  rw [State.letIn, hx, State.modBand_of _ (hput _)]
  rfl

/-- A band let in out of its turn in a queue leaves the queue its link names (R102, R103). -/
theorem endQueueLink_letIn (hb : s.band? slot = some b) : (s.endQueueLink slot).letIn n c slot b =
    admitted { s with classQueues := s.queuesWithout b } n c slot b := by
  cases hq : b.queueLink with
  | none =>
    have hend : s.endQueueLink slot = { s with classQueues := s.queuesWithout b } := by
      simp only [State.endQueueLink, hb, hq, State.queuesWithout]
    rw [hend]
    exact letIn_of_band (s := { s with classQueues := s.queuesWithout b }) hb rfl
  | some l =>
    have hend : s.endQueueLink slot =
        State.putBand { s with classQueues := s.queuesWithout b } slot { b with queueLink := none } := by
      simp only [State.endQueueLink, hb, hq, State.queuesWithout]
      exact State.modBand_of (s.leaveQueue l.cls b.serial) hb _
    rw [hend, letIn_of_band (x := b) (b := { b with queueLink := none }) (State.band?_putBand_self _ slot _) rfl]
    simp [admitted, withBand, withCabin, State.putBand]

end Admission

/-! ### A cabin to call for a class (R103) -/

section Callable
variable {s : State} {k : Fin 4} {n : Fin 64}

/-- The cabins of a class that may be called, ascending. -/
def State.callable (s : State) (k : Fin 4) : List (Fin 64) :=
  s.cabinNumbers.filter (fun n => (s.cabin? n).any (fun c => c.state == .free && c.cls == k && !c.deferred))

theorem mem_callable_iff : n ∈ s.callable k ↔ Callable s k n := by
  have htest : (s.cabin? n).any (fun c => c.state == .free && c.cls == k && !c.deferred) = true ↔ Callable s k n := by
    simp [Callable, Option.any_eq_true, and_assoc]
  rw [State.callable, List.mem_filter, htest]
  exact and_iff_right_of_imp fun ⟨_, hc, _⟩ => Table.mem_keysBelow_of_get? hc

theorem callableCabin_eq_head? : s.callableCabin k = (s.callable k).head? := (List.head?_filter ..).symm

theorem callableCabin_of_none (h : ∀ m, ¬Callable s k m) : s.callableCabin k = none := by
  have hnil : s.callable k = [] := List.eq_nil_iff_forall_not_mem.mpr fun m => mt mem_callable_iff.mp (h m)
  rw [callableCabin_eq_head?, hnil]
  rfl

/-- In the canonical form the lowest of the cabins that may be called is found. -/
theorem callableCabin_of_least (hw : Table.wf s.cabins = true) (h : Callable s k n)
    (hmin : ∀ m, Callable s k m → n ≤ m) : s.callableCabin k = some n := by
  rw [callableCabin_eq_head?]
  exact head?_of_least ((Table.pairwise_lt_keysBelow hw).filter _) (mem_callable_iff.mpr h)
    fun m hm => hmin m (mem_callable_iff.mp hm)

/-- The cabin found depends on the cabin entries alone. -/
theorem callableCabin_congr {u : State} (h : u.cabins = s.cabins) : u.callableCabin k = s.callableCabin k := by
  simp only [State.callableCabin, State.cabinNumbers, State.cabin?, h]

end Callable

/-! ### The queue of a class (R102, R103) -/

section Queue
variable {s : State} {t : Tap} {k : Fin 4} {slot : Nat} {b : Band}

/-- A band that has joined the tail of a class queue and been shown its ticket, before the call step (R103). -/
def State.joined (s : State) (t : Tap) (k : Fin 4) (slot : Nat) (b : Band) : State :=
  shown { withBand s slot { b with queueLink := some ⟨k, s.nextTicket k⟩ } with
    classQueues := s.classQueues.set k.val (s.classQueues[k] ++ [⟨b.serial, s.nextTicket k, s.clock.siteMinute⟩]),
    tickets := s.tickets.set k.val (s.nextTicket k) } t (.ticket (s.nextTicket k))

theorem joined_cabins (s : State) (t : Tap) (k : Fin 4) (slot : Nat) (b : Band) :
    (s.joined t k slot b).cabins = s.cabins := place_cabins ..

theorem joinQueue_of_band (hb : s.band? slot = some b) :
    s.joinQueue t k slot b = (s.joined t k slot b).callAny k := by
  have hmod := State.modBand_of
    { s with
      classQueues := s.classQueues.set k.val (s.classQueues[k] ++ [⟨b.serial, s.nextTicket k, s.clock.siteMinute⟩]),
      tickets := s.tickets.set k.val (s.nextTicket k) } hb
    (fun b => { b with queueLink := some ⟨k, s.nextTicket k⟩ })
  exact congrArg (fun u : State => (u.answerTap t (.ticket (s.nextTicket k))).callAny k) hmod

/-- With no cabin to call the band that joined waits. -/
theorem joinQueue_of_none (hb : s.band? slot = some b) (h : ∀ m, ¬Callable s k m) :
    s.joinQueue t k slot b = s.joined t k slot b := by
  have hnone := (callableCabin_congr (k := k) (joined_cabins s t k slot b)).trans (callableCabin_of_none h)
  rw [joinQueue_of_band hb, State.callAny, hnone]

/-- Else the call step runs for the lowest-numbered one. -/
theorem joinQueue_of_least (hb : s.band? slot = some b) (hw : Table.wf s.cabins = true) {m : Fin 64}
    (h : Callable s k m) (hmin : ∀ m', Callable s k m' → m ≤ m') :
    s.joinQueue t k slot b = (s.joined t k slot b).callStep m := by
  have hsome := (callableCabin_congr (k := k) (joined_cabins s t k slot b)).trans (callableCabin_of_least hw h hmin)
  rw [joinQueue_of_band hb, State.callAny, hsome]

theorem decideQueue_of_queued {x : QueueLink} (hq : b.queueLink = some x) : s.decideQueue t k slot b =
    shown s t (if x.cls = k then .ticket x.ticket else .red .queuedElsewhere 0) := by
  unfold State.decideQueue
  rw [hq]
  exact (apply_ite (shown s t) ..).symm

theorem decideQueue_of_new (hq : b.queueLink = none) : s.decideQueue t k slot b =
    if 16 ≤ (s.classQueues[k]).length then shown s t (.red .queueFull 0) else s.joinQueue t k slot b := by
  unfold State.decideQueue
  rw [hq]
  rfl

end Queue

/-! ### The outside reader (R103) -/

section Outside
variable {s : State} {t : Tap} {n : Fin 64} {c : Cabin} {slot : Nat} {b : Band}

theorem headsQueue_eq_all (q : List QueueEntry) (x : Serial) : headsQueue q x = q.head?.all (fun e => e.serial == x) := by
  cases q <;> rfl

/-- A band with no link to a cabin is let in at a FREE one where it is its turn, on a place reserved, else it queues. -/
theorem reserve?_letIn (hb : s.band? slot = some b) :
    s.reserve?.elim (shown s t .amber) (fun u => (u.endQueueLink slot).letIn n c slot b) =
      if 128 ≤ s.queue.sum then shown s t .amber
      else admitted { reserved s with classQueues := s.queuesWithout b } n c slot b := by
  split
  · next hfull => rw [reserve?_of_full hfull, Option.elim_none]
  · next hroom =>
    rw [reserve?_of_room hroom, Option.elim_some]
    exact endQueueLink_letIn (s := reserved s) hb

/-- The steps of the outside reader in their order: the cabin, the band's class, its link, its turn, the queue. -/
theorem decideOutside_eq (hb : s.band? slot = some b) : s.decideOutside t n c slot b =
    if c.state = .disabled then shown s t (.red .outOfService 0)
    else if (s.classes[b.cls]).cabinMask.getLsbD c.cls.val = false then shown s t (.red .classExcluded 0)
    else b.cabinLink.elim
      (if c.state = .free ∧ (s.classQueues[c.cls]).head?.all (fun x => x.serial == b.serial) = true then
        if 128 ≤ s.queue.sum then shown s t .amber
        else admitted { reserved s with classQueues := s.queuesWithout b } n c slot b
      else s.decideQueue t c.cls slot b)
      fun x =>
        if x = ⟨n, .called⟩ then admitted s n c slot b
        else if x = ⟨n, .occupant⟩ ∧ c.state = .admitting then shown s t .amber
        else shown s t (.red .inCabin 0) := by
  unfold State.decideOutside
  refine ite_congr rfl (fun _ => rfl) fun _ => ite_congr rfl (fun _ => rfl) fun _ => ?_
  cases b.cabinLink with
  | some x =>
    obtain ⟨m, r⟩ := x
    dsimp only [Option.elim_some]
    rw [letIn_of_band hb rfl]
    simp only [CabinLink.mk.injEq, and_assoc]
    rfl
  | none =>
    dsimp only [Option.elim_none]
    rw [headsQueue_eq_all, ← reserve?_letIn hb]
    refine ite_congr rfl (fun _ => ?_) fun _ => rfl
    cases s.reserve? <;> rfl

theorem tapOutside_of_passed {u : State} (hc : s.cabin? n = some c) (h : s.front t .cabin none = .passed u slot b) :
    s.tapOutside t n = u.decideOutside t n c slot b := by
  rw [State.tapOutside, hc, h]

/-- A tap that passes the front at a cabin's outside reader is resolved by its decision. -/
theorem resolves_decideOutside (h : Passes s t (.cabin n) slot b) (hr : t.reader = 0) (hc : s.cabin? n = some c) :
    Resolves s t (.cabin n) ((watched s t (.cabin n) true).decideOutside t n c slot b) :=
  resolves_of_arrives (arrives_of_passes h)
    ((if_pos hr).trans (tapOutside_of_passed (s := counted s) hc (front_of_passes h)))

end Outside

/-! ### The inside reader (R110, R112) -/

section Inside
variable {s : State} {t : Tap} {n : Fin 64} {c : Cabin} {slot : Nat} {b : Band}

/-- An extension: the countdown anew, the lamp, and GREEN (R110, R112). -/
theorem extend_of_cabin (hb : s.band? slot = some b) (hc : s.cabin? n = some c) : s.extend t n slot =
    given ((withCabin s n { counting c s.now c.latched.extension with extensions := c.extensions + 1 }).followLamp n)
      t slot b := by
  have hband : ∀ x, ((s.putCabin n x).followLamp n).band? slot = some b := fun x =>
    (followLamp_band? ..).trans hb
  rw [State.extend, State.modCabin_of s hc]
  exact green_of_band (hband _)

/-- The table of the inside reader: the cabin's state, its occupant, the band's class, the extensions left. -/
theorem decideInside_eq (hb : s.band? slot = some b) (hc : s.cabin? n = some c) : s.decideInside t n c slot b =
    if c.state = .admitting then shown s t .amber
    else if c.state ≠ .occupied ∧ c.state ≠ .overtime then shown s t (.red .outOfService 0)
    else if c.band ≠ some b.serial then denied s t slot b
    else if c.state = .overtime then shown s t (.red .overtime 0)
    else if (s.classes[b.cls]).extend = false then shown s t (.red .noExtend 0)
    else if c.latched.maxExtensions ≤ c.extensions then shown s t (.red .limit 0)
    else given ((withCabin s n { counting c s.now c.latched.extension with extensions := c.extensions + 1 }).followLamp n)
      t slot b := by
  rw [← extend_of_cabin hb hc, ← denyHolder_of_band hb]
  unfold State.decideInside
  cases hs : c.state with
  | disabled | free | called | vacating | evacuated | admitting => rfl
  | overtime => exact (ite_not ..).symm
  | occupied => rfl

theorem tapInside_of_passed {u : State} (hc : s.cabin? n = some c) (h : s.front t .cabin none = .passed u slot b) :
    s.tapInside t n = u.decideInside t n c slot b := by
  rw [State.tapInside, hc, h]

/-- A tap that passes the front at a cabin's inside reader is resolved by its decision. -/
theorem resolves_decideInside (h : Passes s t (.cabin n) slot b) (hr : t.reader = 1) (hc : s.cabin? n = some c) :
    Resolves s t (.cabin n) ((watched s t (.cabin n) true).decideInside t n c slot b) :=
  resolves_of_arrives (arrives_of_passes h)
    ((if_neg (by rw [hr]; decide)).trans (tapInside_of_passed (s := counted s) hc (front_of_passes h)))

end Inside

end Sys2Proof.Machine

namespace Sys2Proof.Proofs
open Sys2Proof Sys2Proof.Machine Sys2Proof.Claims

/-- Settles O51: the five steps in their order; the watches leave all that the steps read. -/
theorem outsideTapResult : Obligations.OutsideTapResult := by
  intro s t n slot b c hp htables hr hc e w q ticket joined
  obtain ⟨-, -, hcabins, -⟩ := htables
  have hb : w.band? slot = some b := (watched_band? ..).trans (band?_of_present (present_of_passes hp))
  have hclasses : w.classes = s.classes := watched_classes ..
  have hqueues : w.classQueues = s.classQueues := watched_classQueues ..
  have hqueue : w.queue = s.queue := watched_queue ..
  have hwf : Table.wf w.cabins = true := (congrArg Table.wf (watched_cabins ..)).trans hcabins
  have hcall : ∀ m, Callable w c.cls m ↔ Callable s c.cls m := callable_watched s t e true c.cls
  have hjoined : w.joined t c.cls slot b = joined := by
    simp only [State.joined, State.nextTicket, w, watched_classQueues, watched_tickets, watched_clock]
    rfl
  have hwithout : w.queuesWithout b = s.queuesWithout b := by
    simp only [State.queuesWithout, hqueues]
  have hshow : ∀ x, Shows s t e x = Resolves s t e (shown w t x) := fun _ => rfl
  have base : Resolves s t e (w.decideOutside t n c slot b) := resolves_decideOutside hp hr hc
  clear_value w
  rw [decideOutside_eq hb, hclasses, hqueues, hqueue, hwithout] at base
  simp only [hshow]
  split
  · next hdisabled => rwa [if_pos hdisabled] at base
  next henabled =>
  rw [if_neg henabled] at base
  split
  · next hmask => rwa [if_pos hmask] at base
  next hmask =>
  rw [if_neg hmask] at base
  refine ⟨fun x hx => ?_, fun hx => ?_⟩
  · rw [hx, Option.elim_some] at base
    simpa only [apply_ite (Resolves s t e)] using base
  rw [hx, Option.elim_none] at base
  split
  · next hturn =>
    rw [if_pos hturn, apply_ite (Resolves s t e)] at base
    exact base
  next hturn =>
  rw [if_neg hturn] at base
  refine ⟨fun x hq => ?_, fun hq => ?_⟩
  · rwa [decideQueue_of_queued hq] at base
  rw [decideQueue_of_new hq, hqueues] at base
  split
  · next hfull => rwa [if_pos hfull] at base
  next hroom =>
  rw [if_neg hroom] at base
  refine ⟨fun hnone => ?_, fun m hm hmin => ?_⟩
  · rwa [joinQueue_of_none hb fun m => mt (hcall m).mp (hnone m), hjoined] at base
  · rwa [joinQueue_of_least hb hwf ((hcall m).mpr hm) fun m' hm' => hmin m' ((hcall m').mp hm'), hjoined] at base

/-- Settles O52: the table of the inside reader; the watches leave all that it reads. -/
theorem insideTapResult : Obligations.InsideTapResult := by
  intro s t n slot b c hp hr hc e w
  have hb : w.band? slot = some b := (watched_band? ..).trans (band?_of_present (present_of_passes hp))
  have hcab : w.cabin? n = some c := (watched_cabin? ..).trans hc
  have base : Resolves s t e (w.decideInside t n c slot b) := resolves_decideInside hp hr hc
  rw [decideInside_eq hb hcab] at base
  simpa only [Shows, w, apply_ite (Resolves s t e), watched_classes, watched_now] using base

end Sys2Proof.Proofs

/-! ## The ends of a cabin's action (06 R105, R106, R109, R117 to R119) -/

namespace Sys2Proof.Machine
open Sys2Proof.Claims

/-! ### The Record Queue and the links -/

/-- A place reserved and turned into a record at once is a record written (R105, R142). -/
theorem convert_reserved (s : State) (r : RecordBody) : (reserved s).convert r = written s r := by
  rw [State.convert_of_pos (Nat.succ_pos _)]
  rfl

/-- A reservation turned into a record, and the link of the cabin's band cleared. -/
theorem clearCabinLink_convert {s : State} (hw : Table.wf s.visit = true) (hr : 0 < s.queue.reserved) (r : RecordBody)
    (x : Option Serial) : (s.convert r).clearCabinLink x = unlinked (converted s r) x := by
  have hconv : s.convert r = converted s r := State.convert_of_pos hr
  rw [hconv]
  exact clearCabinLink_eq (s := converted s r) hw x

section Ends
variable {s : State} {n : Fin 64} {c : Cabin} {x : Action}

/-- The end of a cabin's action writes its entry and the spurs alone (R79). -/
theorem endAction_eq (hc : s.cabin? n = some c) :
    ∃ v, s.endAction (.cabin n) = withCabin { s with spurs := v } n { c with action := none } := by
  obtain ⟨v, hv⟩ := withdraw_only s (.cabin n)
  refine ⟨v, ?_⟩
  rw [State.endAction, hv]
  exact State.modCabin_of { s with spurs := v } hc _

/-! ### The steps of an end -/

/-- An occupancy that has begun, before its record (R105). -/
def State.occupied (s : State) (n : Fin 64) (c : Cabin) : State :=
  (s.putCabin n (Cabin.countdown { c with
    state := .occupied, phase := .outside, entered := false, extensions := 0, overtime := 0, overtimeSince := none,
    ticket := none, entryDeadline := some (s.now + c.latched.callWindow * 1000) } s.now c.latched.allowance)).followLamp n

/-- CABIN_IN is written where a place is free (R105). -/
theorem occupy_eq (s : State) (n : Fin 64) (c : Cabin) : s.occupy n c =
    if s.queue.sum < 128 then written (s.occupied n c) (.cabinIn n c.band c.ticket) else s.occupied n c := by
  have hqueue : (s.occupied n c).queue = s.queue := followLamp_queue ..
  have hoccupy : s.occupy n c =
      (s.occupied n c).reserve?.elim (s.occupied n c) (·.convert (.cabinIn n c.band c.ticket)) := by
    unfold State.occupy State.occupied
    dsimp only
    cases State.reserve? _ <;> rfl
  rw [hoccupy]
  split
  · next hroom => rw [reserve?_of_room (by rw [hqueue]; omega), Option.elim_some, convert_reserved]
  · next hfull => rw [reserve?_of_full (by rw [hqueue]; omega), Option.elim_none]

theorem jamCabin_of_cabin (hc : s.cabin? n = some c) (p : Purpose) : s.jamCabin n p =
    noticed (withCabin s n { c with state := .disabled, band := none, ticket := none, slot := false }) .jammed (.cabin n)
      (.purpose p) := by
  rw [State.jamCabin, State.modCabin_of s hc]
  rfl

/-- A cabin that comes free in an evacuation becomes EVACUATED (R116, R119). -/
theorem freeUp_of_evacuation (hc : s.cabin? n = some c) (he : s.clock.evacuation = true) : s.freeUp n =
    (withCabin s n { c with band := none, ticket := none, slot := false, state := .evacuated }).handOver (.cabin n)
      .retract .evac none none false := by
  unfold State.freeUp
  rw [State.modCabin_of s hc]
  simp only [State.putCabin_clock, he, if_true]
  rw [evacuateIdle_of_cabin (State.cabin?_putCabin_self ..)]
  exact congrArg (State.handOver · _ _ _ _ _ _) (State.putCabin_putCabin ..)

/-! ### A completion by its purpose and the cabin's state (R105, R109, R117 to R119) -/

theorem completeCabin_admission (hc : s.cabin? n = some c) (hp : x.purpose = .admission) :
    s.completeCabin n x = s.occupy n c := by
  rw [State.completeCabin, hc]
  dsimp only
  rw [hp]

theorem completeCabin_vacating (hc : s.cabin? n = some c) (hp : x.purpose = .reset) (hs : c.state = .vacating) :
    s.completeCabin n x = ((s.convert (s.cabinOut n c false)).clearCabinLink c.band).freeUp n := by
  rw [State.completeCabin, hc]
  dsimp only
  rw [hp, hs]

theorem completeCabin_idle (hc : s.cabin? n = some c) (hp : x.purpose = .reset)
    (hs : c.state = .evacuated ∨ c.state = .disabled) : s.completeCabin n x = s.freeUp n := by
  rw [State.completeCabin, hc]
  dsimp only
  rcases hs with hs | hs <;> rw [hp, hs]

theorem completeCabin_other (hc : s.cabin? n = some c) (hp : x.purpose = .secure ∨ x.purpose = .evac) :
    s.completeCabin n x = s := by
  rw [State.completeCabin, hc]
  dsimp only
  rcases hp with hp | hp <;> rw [hp]

/-! ### A final failure by its purpose and the cabin's state (R105, R109, R118) -/

theorem failCabin_admission (hc : s.cabin? n = some c) (hp : x.purpose = .admission) : s.failCabin n x =
    ((s.convert (.failed (.cabin n) c.band none .admission x.attempt false)).clearCabinLink c.band).jamCabin n
      .admission := by
  rw [State.failCabin, hc]
  dsimp only
  rw [hp]

theorem failCabin_vacating (hc : s.cabin? n = some c) (hp : x.purpose = .reset) (hs : c.state = .vacating) :
    s.failCabin n x = ((s.convert (s.cabinOut n c false)).clearCabinLink c.band).jamCabin n .reset := by
  rw [State.failCabin, hc]
  dsimp only
  rw [hp, hs]

theorem failCabin_idle (hc : s.cabin? n = some c) (hp : x.purpose = .reset)
    (hs : c.state = .evacuated ∨ c.state = .disabled) : s.failCabin n x = s.jamCabin n .reset := by
  rw [State.failCabin, hc]
  dsimp only
  rcases hs with hs | hs <;> rw [hp, hs]

theorem failCabin_other (hc : s.cabin? n = some c) (hp : x.purpose = .secure ∨ x.purpose = .evac) :
    s.failCabin n x = noticed s .jammed (.cabin n) (.purpose x.purpose) := by
  rw [State.failCabin, hc]
  dsimp only
  rcases hp with hp | hp <;> rw [hp] <;> rfl

end Ends

end Sys2Proof.Machine

namespace Sys2Proof.Proofs
open Sys2Proof Sys2Proof.Machine Sys2Proof.Claims

/-- Settles O58: the action ends, leaving the entry without it; then its purpose and the cabin's state decide. -/
theorem cabinActionEnds : Obligations.CabinActionEnds := by
  intro s n c x htables hc hx u c' out freed shutUp
  obtain ⟨hvisit, -⟩ := htables
  have hcomplete : s.complete (.cabin n) x = u.completeCabin n x := rfl
  have hfail : s.finalFailure (.cabin n) x = u.failCabin n x := rfl
  obtain ⟨v, hu⟩ : ∃ v, u = withCabin { s with spurs := v } n c' := endAction_eq hc
  have hcab : u.cabin? n = some c' := by rw [hu]; exact cabin?_withCabin ..
  have hwf : Table.wf u.visit = true := by rw [hu]; exact hvisit
  have hnow : u.now = s.now := by rw [hu]; rfl
  have hqueue : u.queue = s.queue := by rw [hu]; rfl
  have hclock : u.clock = s.clock := by rw [hu]; rfl
  have hout : u.cabinOut n c' false = out := by rw [State.cabinOut, hnow]; rfl
  rw [hcomplete, hfail]
  clear_value u
  have hunlinked : ∀ r, (unlinked (converted u r) c.band).cabin? n = some c' := fun r => (unlinked_cabin? ..).trans hcab
  have hclear : ∀ r, 0 < s.queue.reserved → (u.convert r).clearCabinLink c.band = unlinked (converted u r) c.band :=
    fun r hr => clearCabinLink_convert hwf (hqueue ▸ hr) r _
  refine ⟨fun hp => ⟨?_, fun hr => ?_⟩, fun hp => ⟨fun hs hr => ⟨fun he => ?_, ?_⟩, fun hs => ⟨fun he => ?_, fun he => ?_, ?_⟩⟩,
    fun hp => ⟨completeCabin_other hcab hp, failCabin_other hcab hp⟩⟩
  · rw [completeCabin_admission hcab hp, occupy_eq, hqueue, State.occupied, hnow]
    rfl
  · rw [failCabin_admission hcab hp, hclear _ hr, jamCabin_of_cabin (hunlinked _)]
  · rw [completeCabin_vacating hcab hp hs, hout, hclear _ hr, freeUp_of_cabin (hunlinked _)]
    rw [unlinked_clock]
    exact hclock ▸ he
  · rw [failCabin_vacating hcab hp hs, hout, hclear _ hr, jamCabin_of_cabin (hunlinked _)]
  · rw [completeCabin_idle hcab hp hs, freeUp_of_cabin hcab (hclock ▸ he)]
  · rw [completeCabin_idle hcab hp hs, freeUp_of_evacuation hcab (hclock ▸ he)]
  · rw [failCabin_idle hcab hp hs, jamCabin_of_cabin hcab]

end Sys2Proof.Proofs

/-! ## The charge and the exit (07 R130 to R137) -/

namespace Sys2Proof.Machine
open Sys2Proof.Claims

/-! ### The charge (R133, R134) -/

/-- Whole steps rounded up reach the overstay, by less than a step (R134, stage 4). -/
theorem steps_bounds {t : Tariff} (h : 1 ≤ t.step) (o : Nat) :
    o ≤ steps t o * t.step ∧ steps t o * t.step < o + t.step := by
  have hdiv : (o + t.step - 1) / t.step * t.step + (o + t.step - 1) % t.step = o + t.step - 1 := Nat.div_add_mod' ..
  have hmod : (o + t.step - 1) % t.step < t.step := Nat.mod_lt _ h
  rw [steps]
  omega

/-- With no frozen exit the charge is for now (R134, stage 1). -/
theorem exitMinute_of_none {b : Band} (h : b.frozen = none) (n : Nat) : exitMinute b n = n := by
  rw [exitMinute, h]

/-- A frozen exit holds up to its deadline (R134, stage 1). -/
theorem exitMinute_of_frozen {b : Band} {x : FrozenExit} (h : b.frozen = some x) (n : Nat) :
    exitMinute b n = if n ≤ x.deadline then x.minute else n := by
  rw [exitMinute, h]

/-! ### The watches leave the tally as it is -/

section Watched
variable (s : State) (t : Tap) (e : Enrolment) (p : Bool)

@[simp] theorem watched_control : (watched s t e p).control = s.control :=
  watched_keeps s t e p (f := State.control) fun _ _ _ => rfl

@[simp] theorem watched_tallyOf (b : Band) : (watched s t e p).tallyOf b = s.tallyOf b :=
  watched_keeps s t e p (f := (State.tallyOf · b)) fun _ _ _ => rfl

end Watched

section Exit
variable {s : State} {t : Tap} {slot : Nat} {b : Band}

/-! ### The decision at the exit (R130 to R137) -/

/-- A locker of the band moves, by the lockers' own entries (R130). -/
theorem moving_eq_any : s.moving b = b.holdings.any (fun n => (s.locker? n).any (fun l => l.action.isSome)) := by
  simp only [State.moving, State.action?, Option.isSome_bind]

/-- In an evacuation the gate opens, with or without a place for the record (R130, R137). -/
theorem exitEvacuating_eq : s.exitEvacuating t slot b =
    if 128 ≤ s.queue.sum then (shown s t .amber).place t.spur t.address .gate
    else leaves (written s (.exit (s.tallyOf b) true)) t slot := by
  split
  · next hfull => rw [State.exitEvacuating, write?_of_full hfull]; rfl
  · next hroom => rw [State.exitEvacuating, write?_of_room hroom]; rfl

/-- The record of a band sent to pay: its exit frozen anew, DUE unless it is BARRED (R136). -/
def Band.sentToPay (b : Band) (minute hold : Nat) : Band :=
  { b with frozen := some ⟨minute, minute + hold⟩, state := if b.state = .barred then .barred else .due }

theorem sendToPay_of_band (hb : s.band? slot = some b) (f : TallyFields) : s.sendToPay t slot f =
    shown (withBand s slot (b.sentToPay f.exitMinute s.control.tallyHold)) t (.red .payDue (min f.due 9999)) := by
  rw [State.sendToPay, State.modBand_of s hb]
  rfl

/-- The checks outside an evacuation in their order: movement, a LOCKED locker, a place, the amount due (R130 to
R136). -/
theorem exitNormal_eq (hb : s.band? slot = some b) : s.exitNormal t slot b =
    if s.moving b = true then shown s t .amber
    else if (s.classes[b.cls]).strictExit = true ∧ s.holdsLocked b = true then shown s t (.red .lockerHeld 0)
    else if 128 ≤ s.queue.sum then shown s t .amber
    else if (s.tallyOf b).due = 0 then leaves (written s (.exit (s.tallyOf b) false)) t slot
    else shown (withBand (written s (.exitDue { s.tallyOf b with credit := b.credit })) slot
      (b.sentToPay (s.tallyOf b).exitMinute s.control.tallyHold)) t (.red .payDue (min (s.tallyOf b).due 9999)) := by
  unfold State.exitNormal
  refine ite_congr rfl (fun _ => rfl) fun _ => ite_congr rfl (fun _ => rfl) fun _ => ?_
  by_cases hfull : 128 ≤ s.queue.sum
  · rw [if_pos hfull, write?_of_full hfull, write?_of_full hfull]
    exact ite_self _
  · rw [if_neg hfull, write?_of_room hfull, write?_of_room hfull]
    exact ite_congr rfl (fun _ => rfl) fun _ => sendToPay_of_band (s := written s _) hb _

/-- The decision at the exit behind the front: an evacuation has its own (R130). -/
def State.decideExit (s : State) (t : Tap) (slot : Nat) (b : Band) : State :=
  if s.clock.evacuation = true then s.exitEvacuating t slot b else s.exitNormal t slot b

theorem tapExit_of_passed {u : State} (h : s.front t .exit none = .passed u slot b) :
    s.tapExit t = u.decideExit t slot b := by
  rw [State.tapExit, h]
  rfl

/-- A tap that passes the front at an EXIT head is resolved by its decision. -/
theorem resolves_decideExit (h : Passes s t .exit slot b) :
    Resolves s t .exit ((watched s t .exit true).decideExit t slot b) :=
  resolves_of_arrives (arrives_of_passes h) (tapExit_of_passed (s := counted s) (front_of_passes h))

end Exit

end Sys2Proof.Machine

namespace Sys2Proof.Proofs
open Sys2Proof Sys2Proof.Machine Sys2Proof.Claims

/-- Settles O54: the stages of `tally`, the fourth by the bounds of a division rounded up. -/
theorem chargeComputed : Obligations.ChargeComputed := by
  intro s b f d t stay late
  exact ⟨⟨rfl, rfl, rfl, rfl⟩, fun h => exitMinute_of_none h _, fun x h => exitMinute_of_frozen h _, rfl,
    fun hstep => ⟨steps t late, (steps_bounds hstep late).1, (steps_bounds hstep late).2, rfl⟩, rfl, rfl, rfl⟩

/-- Settles O53: the flag, then the checks in their order; the watches leave all that the checks read. -/
theorem exitTapResult : Obligations.ExitTapResult := by
  intro s t slot b hp w f moving locked
  have hb : w.band? slot = some b := (watched_band? ..).trans (band?_of_present (present_of_passes hp))
  have hmoving : w.moving b = moving := by simp only [moving_eq_any, w, watched_locker?, moving]
  have hlocked : w.holdsLocked b = locked := by simp only [State.holdsLocked, w, watched_locker?, locked]
  have hclock : w.clock = s.clock := watched_clock ..
  have hqueue : w.queue = s.queue := watched_queue ..
  have hclasses : w.classes = s.classes := watched_classes ..
  have hcontrol : w.control = s.control := watched_control ..
  have htally : w.tallyOf b = f := watched_tallyOf ..
  have hshow : ∀ x, Shows s t .exit x = Resolves s t .exit (shown w t x) := fun _ => rfl
  have base : Resolves s t .exit (w.decideExit t slot b) := resolves_decideExit hp
  clear_value w
  rw [State.decideExit, exitEvacuating_eq, exitNormal_eq hb, hmoving, hlocked, hclock, hqueue, hclasses, hcontrol,
    htally] at base
  simpa only [apply_ite (Resolves s t .exit), hshow, Band.sentToPay] using base

end Sys2Proof.Proofs

/-! ## The day schedule (07 R125, R126) -/

namespace Sys2Proof.Machine
open Sys2Proof.Claims

/-! ### The set in force (R125) -/

/-- The periods behind others go first. -/
theorem lastAtOrBelow_append (m : Nat) (a b : List Period) :
    lastAtOrBelow m (a ++ b) = (lastAtOrBelow m b).or (lastAtOrBelow m a) := by
  induction a with
  | nil => exact Option.or_none.symm
  | cons p a ih =>
    rw [List.cons_append, lastAtOrBelow, ih, lastAtOrBelow]
    cases lastAtOrBelow m b <;> rfl

theorem lastAtOrBelow_of_above {m : Nat} {l : List Period} (h : ∀ q ∈ l, m < q.start) : lastAtOrBelow m l = none := by
  induction l with
  | nil => rfl
  | cons p l ih =>
    obtain ⟨hp, hl⟩ := List.forall_mem_cons.mp h
    rw [lastAtOrBelow, ih hl]
    exact if_neg (Nat.not_le.mpr hp)

/-- The set of a period that has started, none behind it having started. -/
theorem setInForce_of_last {m : Nat} {p : Period} {a b : List Period} (hp : p.start ≤ m) (hb : ∀ q ∈ b, m < q.start) :
    setInForce (a ++ p :: b) m = p.set := by
  have hlast : lastAtOrBelow m (p :: b) = some p.set := by
    rw [lastAtOrBelow, lastAtOrBelow_of_above hb]
    exact if_pos hp
  rw [setInForce, lastAtOrBelow_append, hlast]
  rfl

/-- Before every start the last period of the day before still runs. -/
theorem setInForce_of_above {m : Nat} {p : Period} {a : List Period} (h : ∀ q ∈ a ++ [p], m < q.start) :
    setInForce (a ++ [p]) m = p.set := by
  rw [setInForce, lastAtOrBelow_of_above h, List.getLast?_concat]

/-! ### The periods of a SCHEDULE_LOAD (R126) -/

/-- A period of a SCHEDULE_LOAD is in range: a minute of the day, a tariff set. -/
def PeriodInRange (p : BitVec 16 × Byte) : Prop := p.1.toNat ≤ 1439 ∧ p.2.toNat ≤ 3

theorem periodOf_of_inRange {p : BitVec 16 × Byte} (h : PeriodInRange p) :
    ∃ q, periodOf p = some q ∧ (q.start, q.set.val) = (p.1.toNat, p.2.toNat) := by
  obtain ⟨hminute, hset⟩ := h
  refine ⟨⟨p.1.toNat, ⟨p.2.toNat, by omega⟩⟩, ?_, rfl⟩
  rw [periodOf, if_pos hminute, below_of_lt]
  rfl

theorem periodOf_of_not_inRange {p : BitVec 16 × Byte} (h : ¬PeriodInRange p) : periodOf p = none := by
  unfold periodOf
  by_cases hminute : p.1.toNat ≤ 1439
  · have hset : 4 ≤ p.2.toNat := Nat.not_le.mp fun hset => h ⟨hminute, hset⟩
    rw [if_pos hminute, below_of_le hset]
    rfl
  · exact if_neg hminute

/-- The periods are those a list carries, in its order. -/
def ReadFrom (ps : List (BitVec 16 × Byte)) (l : List Period) : Prop :=
  l.map (fun p => (p.start, p.set.val)) = ps.map (fun p => (p.1.toNat, p.2.toNat))

theorem periodsOf_of_inRange {ps : List (BitVec 16 × Byte)} (h : ∀ p ∈ ps, PeriodInRange p) :
    ∃ l, periodsOf ps = some l ∧ ReadFrom ps l := by
  induction ps with
  | nil => exact ⟨[], rfl, rfl⟩
  | cons p ps ih =>
    obtain ⟨hp, hps⟩ := List.forall_mem_cons.mp h
    obtain ⟨q, hq, hfields⟩ := periodOf_of_inRange hp
    obtain ⟨l, hl, hmap⟩ := ih hps
    exact ⟨q :: l, by rw [periodsOf, hq, hl], List.cons_eq_cons.mpr ⟨hfields, hmap⟩⟩

theorem periodsOf_of_not_inRange {ps : List (BitVec 16 × Byte)} (h : ¬∀ p ∈ ps, PeriodInRange p) :
    periodsOf ps = none := by
  induction ps with
  | nil => exact absurd (fun _ hp => absurd hp List.not_mem_nil) h
  | cons p ps ih =>
    rw [periodsOf]
    by_cases hp : PeriodInRange p
    · rw [ih fun hps => h (List.forall_mem_cons.mpr ⟨hp, hps⟩)]
      cases periodOf p <;> rfl
    · rw [periodOf_of_not_inRange hp]

/-- Each start above the one before it is above all before it. -/
theorem ascending_iff {l : List Period} : ascending l = true ↔ (l.map Period.start).Pairwise (· < ·) := by
  induction l with
  | nil => exact iff_of_true rfl .nil
  | cons p l ih =>
    cases l with
    | nil => exact iff_of_true rfl (List.pairwise_singleton _ _)
    | cons q l =>
      rw [ascending, Bool.and_eq_true, decide_eq_true_iff, ih, List.map_cons (a := p), List.pairwise_cons (a := p.start)]
      refine and_congr_left fun hrise => ⟨fun hpq => ?_, fun hall => hall _ List.mem_cons_self⟩
      exact List.forall_mem_cons.mpr ⟨hpq, fun x hx => Nat.lt_trans hpq (List.rel_of_pairwise_cons hrise hx)⟩

/-! ### The load (R126) -/

section Schedule
variable {s : State} {ps : List (BitVec 16 × Byte)}

/-- A schedule that SCHEDULE_LOAD takes: 1 to 8 periods, each in range, their starts rising. -/
def GoodSchedule (ps : List (BitVec 16 × Byte)) : Prop :=
  1 ≤ ps.length ∧ ps.length ≤ 8 ∧ (∀ p ∈ ps, PeriodInRange p) ∧ ps.Pairwise (fun p q => p.1.toNat < q.1.toNat)

/-- Periods read from a list number as many, and rise as their starts do. -/
theorem length_and_ascending_of_readFrom {l : List Period} (h : ReadFrom ps l) :
    l.length = ps.length ∧ (ascending l = true ↔ ps.Pairwise (fun p q => p.1.toNat < q.1.toNat)) := by
  have hlength : l.length = ps.length := by simpa using congrArg List.length h
  have hstarts : l.map Period.start = ps.map (·.1.toNat) := by
    simpa [Function.comp_def] using congrArg (List.map Prod.fst) h
  exact ⟨hlength, by rw [ascending_iff, hstarts, List.pairwise_map]⟩

theorem scheduleLoad_of_good (h : GoodSchedule ps) :
    ∃ l, ReadFrom ps l ∧ s.scheduleLoad ps
      = .accepted { s with schedule := l } (.schedule l.length (s.clock.minuteOfDay.map (setInForce l))) := by
  obtain ⟨hmin, hmax, hrange, hrise⟩ := h
  obtain ⟨l, hl, hmap⟩ := periodsOf_of_inRange hrange
  obtain ⟨hlength, hasc⟩ := length_and_ascending_of_readFrom hmap
  refine ⟨l, hmap, ?_⟩
  rw [State.scheduleLoad, hl]
  exact if_pos ⟨hlength ▸ hmin, hlength ▸ hmax, hasc.mpr hrise⟩

theorem scheduleLoad_range (h : ¬GoodSchedule ps) : s.scheduleLoad ps = .refused .range := by
  unfold State.scheduleLoad
  by_cases hrange : ∀ p ∈ ps, PeriodInRange p
  · obtain ⟨l, hl, hmap⟩ := periodsOf_of_inRange hrange
    obtain ⟨hlength, hasc⟩ := length_and_ascending_of_readFrom hmap
    rw [hl]
    exact if_neg fun ⟨hmin, hmax, hrise⟩ => h ⟨hlength ▸ hmin, hlength ▸ hmax, hrange, hasc.mp hrise⟩
  · rw [periodsOf_of_not_inRange hrange]

end Schedule

end Sys2Proof.Machine

namespace Sys2Proof.Proofs
open Sys2Proof Sys2Proof.Machine Sys2Proof.Claims

/-- Settles O27: the list read whole or refused, and the last period that has started. -/
theorem scheduleLoadResult : Obligations.ScheduleLoadResult := by
  constructor
  · intro s ps hr hlen c good
    refine ⟨fun h => refuses_of_owner hr (fun _ => rfl) hlen (scheduleLoad_range h), fun h => ?_⟩
    obtain ⟨l, hmap, hload⟩ := scheduleLoad_of_good (s := framed s) h
    exact ⟨l, hmap, answers_of_owner hr (fun _ => rfl) hlen hload, fun m hm => issueSet_of_minute hm⟩
  · intro a b p m _
    refine ⟨setInForce_of_last, ?_⟩
    rintro rfl habove
    exact setInForce_of_above habove

end Sys2Proof.Proofs

/-! ## The Record Queue (08 R141, R142), and the reset state -/

namespace Sys2Proof.Machine

/-- A change of a band's record writes the Visit Table alone. -/
theorem State.modBand_only (s : State) (slot : Nat) (f : Band → Band) : ∃ v, s.modBand slot f = { s with visit := v } := by
  unfold State.modBand
  split
  · exact ⟨_, rfl⟩
  · exact ⟨s.visit, rfl⟩

/-! ### The bound of the sum (R141, R142) -/

section Sum
variable {s t : State} {b : RecordBody}

/-- A write is granted below the bound, so its record stays within it. -/
theorem QueueBounded.write (h : s.write? b = some t) : QueueBounded t := by
  obtain ⟨hroom, rfl⟩ := State.write?_eq_some.mp h
  simp only [QueueBounded, RecordQueue.sum, Config.recordPlaces, List.length_append, List.length_singleton] at hroom ⊢
  omega

theorem QueueBounded.reserve (h : s.reserve? = some t) : QueueBounded t := by
  obtain ⟨hroom, rfl⟩ := State.reserve?_eq_some.mp h
  simp only [QueueBounded, RecordQueue.sum, Config.recordPlaces] at hroom ⊢
  omega

theorem QueueBounded.writeReserve (h : s.writeReserve? b = some t) : QueueBounded t := by
  obtain ⟨hroom, rfl⟩ := State.writeReserve?_eq_some.mp h
  simp only [QueueBounded, RecordQueue.sum, Config.recordPlaces, List.length_append, List.length_singleton] at hroom ⊢
  omega

/-- A conversion exchanges a reserved place for a record. -/
theorem QueueBounded.convert (h : QueueBounded s) : QueueBounded (s.convert b) := by
  rw [QueueBounded, State.convert_sum]
  exact h

theorem QueueBounded.release (h : QueueBounded s) : QueueBounded s.release :=
  Nat.le_trans (Nat.add_le_add_left (Nat.sub_le ..) _) h

theorem QueueBounded.dropRecord (h : QueueBounded s) : QueueBounded s.dropRecord :=
  Nat.le_trans (Nat.add_le_add_right (List.drop_sublist ..).length_le _) h

/-- A change that leaves the Record Queue leaves the bound. -/
theorem QueueBounded.of_queue (hq : t.queue = s.queue) (h : QueueBounded s) : QueueBounded t := by
  rw [QueueBounded, hq]
  exact h

end Sum

/-- Each primitive change the model makes keeps the sum within its bound: the three grants test for it, the other two
requests do not raise the sum, and no other change touches the queue but to clear it. -/
theorem kept_queueBounded : Kept QueueBounded where
  time h := h
  alerts h := h
  watches h := h
  write e _ := .write e
  reserve e _ := .reserve e
  writeReserve e _ := .writeReserve e
  convert h := h.convert
  release h := h.release
  putLocker h := h
  putCabin h := h
  rotors h := h
  classQueues h := h
  tickets h := h
  modBand {s slot f} _ h := by obtain ⟨v, e⟩ := s.modBand_only slot f; rw [e]; exact h
  dropBand h := h
  modHead {s sp a f} _ h := by obtain ⟨v, e⟩ := s.modHead_only sp a f; rw [e]; exact h
  port _ h := h
  transmit h := h
  paused h := h
  dropLocker h := h
  dropCabin h := h
  zones h := h
  cabinClasses h := h
  classes h := h
  tariffs h := h
  schedule h := h
  control h := h
  lines h := h
  issue _ _ _ _ h := h
  rename {s slot _ _ new} _ _ _ h := by
    obtain ⟨v, e⟩ := s.modBand_only slot (fun b => { b with serial := new })
    exact h.of_queue (by rw [State.rename, e])
  evacuation h := h
  timeSet h := h
  openDay _ _ h := h
  beginClosing _ h := h
  makeHead h := h
  dropHead h := h
  restartPort h := h
  assembly h := h
  reset _ := Nat.zero_le _
  dropRecord h := h.dropRecord
  minute h := h
  walkWaits _ h := h
  walkWakes _ h := h
  walkPast _ _ _ _ h := h
  closeDay _ _ h := h
  joinReply _ h := h
  dropReply h := h
  count h := h
  pop h := h

/-! ### The reset state (R1, R161, R166) -/

/-- After a cold reset no head is enrolled. -/
theorem heads_reset (sp : Fin 4) : (State.reset.spur sp).heads = [] := by
  simp [State.spur, State.reset, Spur.reset]

theorem listsBounded_reset : ListsBounded State.reset := by
  intro sp e he
  rw [heads_reset] at he
  exact absurd he List.not_mem_nil

/-- The Visit Table is empty, and the day CLOSED with the walk idle. -/
theorem visitConsistent_reset : VisitConsistent State.reset := by
  have hvisit : State.reset.visit = [] := rfl
  have hclosing : State.reset.clock.day ≠ .closing := DayState.noConfusion
  refine ⟨rfl, ?_, ?_, fun _ => hvisit, fun h => absurd h hclosing, iff_of_true rfl hclosing, fun h => absurd rfl h⟩
  · intro e he
    exact absurd he List.not_mem_nil
  · intro e he
    exact absurd he List.not_mem_nil

end Sys2Proof.Machine

namespace Sys2Proof.Proofs
open Sys2Proof Sys2Proof.Machine Sys2Proof.Claims

/-- Settles O5: each primitive change keeps the sum within its bound, so every step does. -/
theorem stepKeepsSum : Obligations.StepKeepsSum := fun _ _ h e => kept_queueBounded.step h e

/-- Settles O4: the tables, lists and queues of the reset state are empty, and its station is the straps' 0. -/
theorem resetKeepsAll : Obligations.ResetKeepsAll :=
  ⟨Nat.zero_le _, listsBounded_reset, Nat.zero_le _, Nat.zero_le _, ⟨rfl, rfl, rfl, headsCanonical_reset⟩,
    visitConsistent_reset⟩

end Sys2Proof.Proofs

/-! ## The alerts, the watches and the paused flag commanded (08 R146 to R154) -/

namespace Sys2Proof.Machine
open Sys2Proof.Claims

/-! ### The attention code (R148) -/

theorem AlertClass.mem_all (c : AlertClass) : c ∈ AlertClass.all := by cases c <;> decide

/-- The classes are numbered from 1 on, each with a number of its own. -/
theorem AlertClass.number_pos (c : AlertClass) : 0 < c.number := by cases c <;> decide

theorem AlertClass.eq_of_number {c d : AlertClass} (h : c.number = d.number) : c = d := by
  have hc := alertClassOf_number c
  rw [h, alertClassOf_number d] at hc
  exact (Option.some.inj hc).symm

/-- In a list of rising keys the first entry that meets a test is the one of the lowest key. -/
theorem find?_eq_some_iff_least {α : Type} {key : α → Nat} {p : α → Bool} {l : List α} {a : α}
    (hl : l.Pairwise (fun x y => key x < key y)) (ha : a ∈ l) :
    l.find? p = some a ↔ p a = true ∧ ∀ b ∈ l, key b < key a → p b = false := by
  constructor
  · intro hfind
    obtain ⟨hp, as, bs, rfl, has⟩ := List.find?_eq_some_iff_append.mp hfind
    obtain ⟨-, hbs, -⟩ := List.pairwise_append.mp hl
    refine ⟨hp, fun b hb hlt => ?_⟩
    rcases List.mem_append.mp hb with hb | hb
    · simpa using has b hb
    · rcases List.mem_cons.mp hb with rfl | hb
      · exact absurd hlt (Nat.lt_irrefl _)
      · exact absurd hlt (Nat.lt_asymm (List.rel_of_pairwise_cons hbs hb))
  · rintro ⟨hp, hlower⟩
    obtain ⟨as, bs, rfl⟩ := List.append_of_mem ha
    obtain ⟨-, -, hcross⟩ := List.pairwise_append.mp hl
    refine List.find?_eq_some_iff_append.mpr ⟨hp, as, bs, rfl, fun b hb => ?_⟩
    rw [hlower b (List.mem_append_left _ hb) (hcross b hb a List.mem_cons_self), Bool.not_false]

section Attention
variable {s : State} {c : AlertClass}

/-- The class of the attention code is that of the full latch of the lowest number. -/
theorem topAlert_eq_some_iff : s.topAlert = some c ↔ (s.alerts[c.index]).notice.isSome = true
    ∧ ∀ d : AlertClass, d.number < c.number → (s.alerts[d.index]).notice = none := by
  have hsorted : AlertClass.all.Pairwise (fun x y => x.number < y.number) := by decide
  rw [State.topAlert, find?_eq_some_iff_least hsorted c.mem_all]
  simp [State.latch, AlertClass.mem_all]

theorem topAlert_eq_none_iff : s.topAlert = none ↔ ∀ c : AlertClass, (s.alerts[c.index]).notice = none := by
  simp [State.topAlert, State.latch, AlertClass.mem_all]

theorem attention_eq_number_iff : s.attention = c.number ↔ s.topAlert = some c := by
  unfold State.attention
  cases s.topAlert with
  | none => exact iff_of_false (Nat.ne_of_lt c.number_pos) (Option.some_ne_none c).symm
  | some d => exact ⟨fun h => congrArg some (AlertClass.eq_of_number h), fun h => by rw [Option.some.inj h]⟩

theorem attention_eq_zero_iff : s.attention = 0 ↔ s.topAlert = none := by
  unfold State.attention
  cases s.topAlert with
  | none => exact iff_of_true rfl rfl
  | some d => exact iff_of_false (Nat.ne_of_gt d.number_pos) (Option.some_ne_none d)

end Attention

/-! ### ALERT_FETCH and ALERT_CLEAR (R149, R151) -/

theorem alertFetch_of_none {s : State} (h : s.topAlert = none) : s.alertFetch = .accepted s (.alert none) := by
  rw [State.alertFetch, h]

theorem alertFetch_of_some {s : State} {c : AlertClass} (h : s.topAlert = some c) :
    s.alertFetch = .accepted (s.putLatch c (s.latch c).emptied) (.alert (some (c, s.latch c))) := by
  rw [State.alertFetch, h]

/-- The latches with those a mask names emptied (R151). -/
def clearedLatches (v : Vector Latch 8) (mask : BitVec 8) : Vector Latch 8 :=
  v.mapFinIdx (fun i l _ => if mask.getLsbD i then l.emptied else l)

theorem clearedLatches_index (v : Vector Latch 8) (mask : BitVec 8) (c : AlertClass) :
    (clearedLatches v mask)[c.index] =
      if mask.getLsbD (c.number - 1) then ⟨none, (v[c.index]).sequence⟩ else v[c.index] :=
  Vector.getElem_mapFinIdx c.index.isLt

theorem clearedLatches_sequence (v : Vector Latch 8) (mask : BitVec 8) (c : AlertClass) :
    ((clearedLatches v mask)[c.index]).sequence = (v[c.index]).sequence := by
  rw [clearedLatches_index]
  split <;> rfl

theorem alertClear_eq (s : State) (mask : BitVec 8) :
    s.alertClear mask = .accepted { s with alerts := clearedLatches s.alerts mask }
      (.attention (State.attention { s with alerts := clearedLatches s.alerts mask })) := rfl

/-! ### WATCH_SET and WATCH_CLEAR (R153, R154) -/

section Watch
variable {s : State}

theorem watchTargetOf_band {x : Serial} (h : ¬badSerial x) : watchTargetOf 0 x = .ok (.band x) := by
  simp [watchTargetOf, validSerial_of_not_bad h]

theorem watchTargetOf_badSerial {x : Serial} (h : badSerial x) : watchTargetOf 0 x = .error .range := by
  simp [watchTargetOf, validSerial_eq_false_iff.mpr h]

theorem watchTargetOf_words (f l : BitVec 16) : watchTargetOf 1 (f ++ l) =
    match below 1024 f.toNat, below 1024 l.toNat with
    | some f, some l => if l < f then .error .range else .ok (.range f l)
    | _, _ => .error .range := by
  simp only [watchTargetOf, BitVec.extractLsb'_append_eq_left, BitVec.extractLsb'_append_eq_right] <;> rfl

theorem watchTargetOf_range {f l : Fin 1024} (h : f ≤ l) :
    watchTargetOf 1 (BitVec.ofNat 16 f.val ++ BitVec.ofNat 16 l.val) = .ok (.range f l) := by
  rw [watchTargetOf_words, below_word f (by decide), below_word l (by decide)]
  exact if_neg (Fin.not_lt.mpr h)

theorem watchTargetOf_badRange {f l : BitVec 16} (h : ¬(f.toNat ≤ l.toNat ∧ l.toNat ≤ 1023)) :
    watchTargetOf 1 (f ++ l) = .error .range := by
  rw [watchTargetOf_words]
  by_cases hl : l.toNat < 1024
  · have hlt : l.toNat < f.toNat := by omega
    rw [below_of_lt hl]
    cases hf : below 1024 f.toNat with
    | none => rfl
    | some i =>
      rw [below_eq_some_iff.mp hf] at hlt
      exact if_pos hlt
  · rw [below_of_le (Nat.not_lt.mp hl)]
    cases below 1024 f.toNat <;> rfl

theorem watchTargetOf_unknown {t : Byte} (h : 1 < t.toNat) (g : BitVec 32) : watchTargetOf t g = .error .format := by
  have h0 : t ≠ 0 := by rintro rfl; simp at h
  have h1 : t ≠ 1 := by rintro rfl; simp at h
  rw [watchTargetOf, if_neg h0, if_neg h1]

theorem watchModeOf_of_le {m : Byte} (h : m.toNat ≤ 1) : watchModeOf m = .ok (if m = 0 then .note else .hold) := by
  unfold watchModeOf
  split
  · rfl
  · have h1 : m = 1 := by bv_omega
    exact if_pos h1

theorem watchModeOf_unknown {m : Byte} (h : 1 < m.toNat) : watchModeOf m = .error .format := by
  have h0 : m ≠ 0 := by rintro rfl; simp at h
  have h1 : m ≠ 1 := by rintro rfl; simp at h
  rw [watchModeOf, if_neg h0, if_neg h1]

theorem watchSet_range {x t m : Byte} {g : BitVec 32} (h : 7 < x.toNat) : s.watchSet x t m g = .refused .range := by
  rw [State.watchSet, below_of_le h]

theorem watchClear_range {x : Byte} (h : 7 < x.toNat) : s.watchClear x = .refused .range := by
  rw [State.watchClear, below_of_le h]

/-- With an entry in range the target is judged, then the mode. -/
theorem watchSet_of_entry (i : Fin 8) (t m : Byte) (g : BitVec 32) : s.watchSet (BitVec.ofNat 8 i.val) t m g =
    match watchTargetOf t g, watchModeOf m with
    | .error c, _ => .refused c
    | .ok _, .error c => .refused c
    | .ok x, .ok y =>
      .accepted { s with watches := s.watches.set i.val (some ⟨x, y, true⟩) } (.watch s.watches[i]) := by
  rw [State.watchSet, below_byte i (by decide)]
  cases watchTargetOf t g <;> cases watchModeOf m <;> rfl

theorem watchSet_of_target {i : Fin 8} {t m : Byte} {g : BitVec 32} {x : WatchTarget} (hx : watchTargetOf t g = .ok x)
    (hm : m.toNat ≤ 1) : s.watchSet (BitVec.ofNat 8 i.val) t m g = .accepted
      { s with watches := s.watches.set i.val (some ⟨x, if m = 0 then .note else .hold, true⟩) } (.watch s.watches[i]) := by
  rw [watchSet_of_entry, hx, watchModeOf_of_le hm]

theorem watchSet_badTarget {i : Fin 8} {t m : Byte} {g : BitVec 32} {c : RefusalCode} (h : watchTargetOf t g = .error c) :
    s.watchSet (BitVec.ofNat 8 i.val) t m g = .refused c := by
  rw [watchSet_of_entry, h]

theorem watchSet_badMode {i : Fin 8} {t m : Byte} {g : BitVec 32} {x : WatchTarget} (hx : watchTargetOf t g = .ok x)
    (hm : 1 < m.toNat) : s.watchSet (BitVec.ofNat 8 i.val) t m g = .refused .format := by
  rw [watchSet_of_entry, hx, watchModeOf_unknown hm]

theorem watchClear_of_entry (i : Fin 8) : s.watchClear (BitVec.ofNat 8 i.val) =
    .accepted { s with watches := s.watches.set i.val none } (.watch s.watches[i]) := by
  rw [State.watchClear, below_byte i (by decide)]

end Watch

end Sys2Proof.Machine

namespace Sys2Proof.Proofs
open Sys2Proof Sys2Proof.Machine Sys2Proof.Claims

/-- Settles O28: the owner accepts both rows in every state. -/
theorem pauseResult : Obligations.PauseResult := by
  intro s hr
  exact ⟨answers_of_owner hr (fun _ => rfl) trivial rfl, answers_of_owner hr (fun _ => rfl) trivial rfl⟩

/-- Settles O29: the entry, then the target, then the mode. -/
theorem watchResult : Obligations.WatchResult := by
  intro s i hr e
  refine ⟨?_, ?_, ?_, ?_, ?_, ?_, ?_, ?_, ?_⟩
  · intro x m hx hm
    exact answers_of_owner hr (fun _ => rfl) trivial (watchSet_of_target (s := framed s) (watchTargetOf_band hx) hm)
  · intro f l m hfl hm
    exact answers_of_owner hr (fun _ => rfl) trivial (watchSet_of_target (s := framed s) (watchTargetOf_range hfl) hm)
  · exact answers_of_owner hr (fun _ => rfl) trivial (watchClear_of_entry (s := framed s) i)
  · intro x t m g hx
    exact ⟨refuses_of_owner hr (fun _ => rfl) trivial (watchSet_range hx),
      refuses_of_owner hr (fun _ => rfl) trivial (watchClear_range hx)⟩
  · intro x m hx
    exact refuses_of_owner hr (fun _ => rfl) trivial (watchSet_badTarget (watchTargetOf_badSerial hx))
  · intro f l m hfl
    exact refuses_of_owner hr (fun _ => rfl) trivial (watchSet_badTarget (watchTargetOf_badRange hfl))
  · intro x m hx hm
    exact refuses_of_owner hr (fun _ => rfl) trivial (watchSet_badMode (watchTargetOf_band hx) hm)
  · intro f l m hfl hm
    exact refuses_of_owner hr (fun _ => rfl) trivial (watchSet_badMode (watchTargetOf_range hfl) hm)
  · intro t m g ht
    exact refuses_of_owner hr (fun _ => rfl) trivial (watchSet_badTarget (watchTargetOf_unknown ht g))

/-- Settles O30: the class of the attention code is found, or every latch is empty. -/
theorem alertFetchResult : Obligations.AlertFetchResult := by
  intro s hr
  refine ⟨fun hempty => ?_, fun c x n hfull hlower => ?_⟩
  · have htop : (framed s).topAlert = none := topAlert_eq_none_iff.mpr hempty
    exact answers_of_owner hr (fun _ => rfl) trivial (alertFetch_of_none htop)
  · have htop : (framed s).topAlert = some c := topAlert_eq_some_iff.mpr ⟨congrArg (·.notice.isSome) hfull, hlower⟩
    have hlatch : (framed s).latch c = ⟨some x, n⟩ := hfull
    refine answers_of_owner hr (fun _ => rfl) trivial ((alertFetch_of_some htop).trans ?_)
    rw [hlatch]
    rfl

/-- Settles O31: the latches the mask names emptied, and the attention code read of what is left. -/
theorem alertClearResult : Obligations.AlertClearResult := by
  intro s mask hr
  refine ⟨clearedLatches s.alerts mask, clearedLatches_index s.alerts mask,
    answers_of_owner hr (fun _ => rfl) trivial (alertClear_eq (framed s) mask), fun c => ?_, ?_, fun c x d => ?_⟩
  · exact attention_eq_number_iff.trans topAlert_eq_some_iff
  · exact attention_eq_zero_iff.trans topAlert_eq_none_iff
  · have hlatch : ∀ u : State, (u.alert c x d).alerts[c.index] =
        ⟨some ⟨u.clock.siteMinute, x, d⟩, ((u.alerts[c.index]).sequence + 1) % 8⟩ :=
      fun u => Vector.getElem_set_self c.index.isLt
    rw [hlatch, ← clearedLatches_sequence s.alerts mask]
    rfl

end Sys2Proof.Proofs

/-! ## The transmitter and the lines (08 R145, 10 R179, 11 R191, R192) -/

namespace Sys2Proof.Machine
open Sys2Proof.Claims

/-- Operations that are no owner's leave the clock and the lines. -/
theorem keptCore_of_clock_lines {Q : SiteClock → Vector Line 6 → Prop} : KeptCore (fun s => Q s.clock s.lines) where
  time h := h
  alerts h := h
  watches h := h
  write e h := by obtain ⟨-, rfl⟩ := State.write?_eq_some.mp e; exact h
  reserve e h := by obtain ⟨-, rfl⟩ := State.reserve?_eq_some.mp e; exact h
  writeReserve e h := by obtain ⟨-, rfl⟩ := State.writeReserve?_eq_some.mp e; exact h
  convert {s b} h := by obtain ⟨q, e⟩ := s.convert_only b; rw [e]; exact h
  release h := h
  putLocker h := h
  putCabin h := h
  rotors h := h
  classQueues h := h
  tickets h := h
  modBand {s slot f} _ h := by obtain ⟨v, e⟩ := s.modBand_only slot f; rw [e]; exact h
  dropBand h := h
  modHead {s sp a f} _ h := by obtain ⟨v, e⟩ := s.modHead_only sp a f; rw [e]; exact h
  port _ h := h
  transmit h := h

/-! ### The frame in the transmitter (R179) -/

/-- A transmitter that holds a frame leaves the arbiter nothing to choose (R180). -/
theorem arbitrate_of_sending {s : State} (h : s.trunk.arbiter ≠ .idle) : s.arbitrate = s := by
  unfold State.arbitrate
  cases ha : s.trunk.arbiter with
  | idle => exact absurd ha h
  | _ => rfl

section Sent
variable {s u : State} {n : Nat} {r : Reply} {rs : List Reply}

theorem exec_replySent (h : (counted s).replySent = u) : exec .replySent s = .next u.arbitrate := h ▸ rfl

theorem exec_replySegmentSent (h : (counted s).segmentSent = u) : exec .replySegmentSent s = .next u.arbitrate := h ▸ rfl

theorem exec_recordSent (h : (counted s).recordSent = u) : exec .recordSent s = .next u.arbitrate := h ▸ rfl

theorem lastSegment_iff : lastSegment r n = true ↔ r.bodies.length ≤ n + 1 := decide_eq_true_iff

/-- A segment that has another behind it is not the last. -/
theorem lastSegment_of_next {x : Byte × List Byte} (h : r.bodies[n + 1]? = some x) : lastSegment r n = false := by
  obtain ⟨hlt, -⟩ := List.getElem?_eq_some_iff.mp h
  exact decide_eq_false (Nat.not_le.mpr hlt)

theorem replySent_of_sending (ha : s.trunk.arbiter = .sendingReply n) (hr : s.trunk.replies = r :: rs) :
    s.replySent = if lastSegment r n then s.freeTransmitter.dropReply else s := by
  rw [State.replySent, ha, hr]

theorem segmentSent_of_sending (ha : s.trunk.arbiter = .sendingReply n) (hr : s.trunk.replies = r :: rs) :
    s.segmentSent = if lastSegment r n then s else s.beginSegment r (n + 1) := by
  rw [State.segmentSent, ha, hr]

/-- With no reply in the transmitter neither row has an effect (log 22). -/
theorem reply_rows_of_none (h : (∀ n, s.trunk.arbiter ≠ .sendingReply n) ∨ s.trunk.replies = []) :
    s.replySent = s ∧ s.segmentSent = s := by
  unfold State.replySent State.segmentSent
  cases ha : s.trunk.arbiter with
  | sendingReply n =>
    rcases h with h | h
    · exact absurd ha (h n)
    · rw [h]
      exact ⟨rfl, rfl⟩
  | _ => exact ⟨rfl, rfl⟩

theorem beginSegment_of_body {kind : Byte} {body : List Byte} (h : r.bodies[n]? = some (kind, body)) :
    s.beginSegment r n = { s with trunk := { s.trunk with
      arbiter := .sendingReply n, txFrame := upstreamFrame s.trunk.station kind s.attention body } } := by
  rw [State.beginSegment, h]

theorem recordSent_of_sending (h : s.trunk.arbiter = .sendingRecord) :
    s.recordSent = s.freeTransmitter.dropRecord.recordLeft := by
  rw [State.recordSent, h]

theorem recordSent_of_none (h : s.trunk.arbiter ≠ .sendingRecord) : s.recordSent = s := by
  unfold State.recordSent
  cases ha : s.trunk.arbiter with
  | sendingRecord => exact absurd ha h
  | _ => rfl

end Sent

/-! ### The neighbours of a record that has left (R114, R145, R189) -/

theorem mem_deferredCabins_iff {s : State} {n : Fin 64} :
    n ∈ s.deferredCabins ↔ ∃ c, s.cabin? n = some c ∧ c.state = .free ∧ c.deferred = true := by
  have htest : (s.cabin? n).any (fun c => c.state == .free && c.deferred) = true ↔
      ∃ c, s.cabin? n = some c ∧ c.state = .free ∧ c.deferred = true := by
    simp [Option.any_eq_true]
  rw [State.deferredCabins, List.mem_filter, htest]
  exact and_iff_right_of_imp fun ⟨_, hc, _⟩ => Table.mem_keysBelow_of_get? hc

theorem wakeWalk_of_walk {s : State} {w : Walk} (h : s.clock.walk = w) : s.wakeWalk =
    { s with clock := { s.clock with walk := if w = .waiting then .due else w } } := by
  subst h
  unfold State.wakeWalk
  split <;> rfl

theorem foldl_callStep_clock (l : List (Fin 64)) (s : State) : (l.foldl State.callStep s).clock = s.clock :=
  keptFoldl (P := fun t => t.clock = s.clock)
    (fun _ _ h => (keptCore_of_clock_lines (Q := fun c _ => c = s.clock)).callStep h) l rfl

/-- The call steps leave the walk as it stood, so a waiting walk is woken behind them. -/
theorem recordLeft_eq (s : State) : s.recordLeft =
    let v := s.deferredCabins.foldl State.callStep s
    { v with clock := { v.clock with walk := if s.clock.walk = .waiting then .due else s.clock.walk } } :=
  wakeWalk_of_walk (congrArg SiteClock.walk (foldl_callStep_clock ..))

/-! ### The lines as they are watched and driven (R191, R192) -/

theorem Line.watch_eq (l : Line) (now : Nat) : l.watch now =
    { l with settle := if isInput l.function = true ∧ (l.high != l.inverted) ≠ l.taken
        then some (l.settle.getD (now + 50)) else none } := by
  unfold Line.watch Line.pinAsserted
  split <;> rfl

theorem Line.load_eq (l : Line) (new : LineFunction × Bool) (now : Nat) : l.load new now =
    if l.function = new.1 ∧ l.inverted = new.2 then l
    else ⟨new.1, new.2, false, l.high,
      if isInput new.1 = true ∧ l.high ≠ new.2 then some (now + 50) else none⟩ := by
  have hpin : (l.high != new.2) ≠ false ↔ l.high ≠ new.2 := by rw [ne_eq, bne_eq_false_iff_eq]
  unfold Line.load
  by_cases hsame : l.function = new.1 ∧ l.inverted = new.2
  · rw [if_pos hsame, if_pos hsame]
  · rw [if_neg hsame, if_neg hsame, Line.watch_eq]
    simp only [hpin, Option.getD_none]

section Lines
variable {s u : State} {i : Fin 6}

theorem outputHigh_of_input (h : isInput (s.lines[i]).function = true) : s.outputHigh i = none := if_pos h

/-- An output's pin stands off its polarity exactly while its condition holds. -/
theorem outputHigh_of_output {f : LineFunction} {p : Prop} (hf : (s.lines[i]).function = f) (ho : isInput f = false)
    (hp : s.outputAsserted f = true ↔ p) :
    ∃ high, s.outputHigh i = some high ∧ (high ≠ (s.lines[i]).inverted ↔ p) := by
  subst hf
  refine ⟨_, if_neg (by rw [ho]; exact Bool.false_ne_true), Iff.trans ?_ hp⟩
  cases s.outputAsserted (s.lines[i]).function <;> simp

theorem attentionOut_iff : s.outputAsserted .attentionOut = true ↔
    ∃ c : AlertClass, (s.alerts[c.index]).notice ≠ none := by
  rw [State.outputAsserted, bne_iff_ne, ne_eq, attention_eq_zero_iff, topAlert_eq_none_iff, Classical.not_forall]

theorem backpressureOut_iff : s.outputAsserted .backpressureOut = true ↔
    120 ≤ s.queue.records.length + s.queue.reserved := decide_eq_true_iff

/-! ### EVAC_IN and the closing key (R192) -/

theorem evacuationHeld_iff : s.evacuationHeld = true ↔
    ∃ j : Fin 6, (s.lines[j]).function = .evacIn ∧ (s.lines[j]).taken = true := by
  simp [State.evacuationHeld, Line.holdsEvacuation, List.any_eq_true]

theorem evacuationHeld_eq_false_iff : s.evacuationHeld = false ↔
    ∀ j : Fin 6, (s.lines[j]).function ≠ .evacIn ∨ (s.lines[j]).taken = false := by
  rw [← Bool.not_eq_true, evacuationHeld_iff, not_exists]
  exact forall_congr' fun j => by rw [Decidable.not_and_iff_or_not, Bool.not_eq_true]

theorem evacuationLet_of_last (he : s.clock.evacuation = true) (hh : s.evacuationHeld = false) :
    s.evacuationLet = s.releaseEvacuation := if_pos ⟨he, hh⟩

theorem evacuationLet_of_held (h : s.clock.evacuation = false ∨ s.evacuationHeld = true) : s.evacuationLet = s := by
  refine if_neg fun ⟨he, hh⟩ => ?_
  rcases h with h | h
  · rw [h] at he
    exact Bool.false_ne_true he
  · rw [h] at hh
    exact Bool.false_ne_true hh.symm

theorem evacuationTaken_eq (s : State) (i : Fin 6) : s.evacuationTaken i =
    if s.clock.evacuation = true then noticed s .evacuation (.line i) .asserted
    else (noticed s .evacuation (.line i) .asserted).assertEvacuation := rfl

/-- A line that is neither EVAC_IN nor the closing key has its level taken and no more. -/
theorem actOnLine_of_other {f : LineFunction} {level : Bool} (he : f ≠ .evacIn) (hk : f ≠ .closeKey) :
    s.actOnLine i f level = s := by
  cases f with
  | evacIn => exact absurd rfl he
  | closeKey => exact absurd rfl hk
  | _ => rfl

theorem actOnLine_closeKey (s : State) (i : Fin 6) (level : Bool) : s.actOnLine i .closeKey level =
    if level = true ∧ s.clock.day = .opened then s.beginClosing else s := by
  cases level with
  | false => rfl
  | true => simp [State.actOnLine]

/-! ### The release of the evacuation leaves the lines (R118) -/

theorem releaseCabin_lines (s : State) (n : Fin 64) : (s.releaseCabin n).lines = s.lines := by
  have k : KeptCore (fun t => t.lines = s.lines) := keptCore_of_clock_lines (Q := fun _ v => v = s.lines)
  unfold State.releaseCabin
  split
  · rfl
  · split
    · exact k.handReset (k.modCabin (k.dropAction rfl))
    · rfl

theorem releaseEvacuation_lines (s : State) : s.releaseEvacuation.lines = s.lines :=
  keptFoldl (P := fun t => t.lines = s.lines) (fun t n h => (releaseCabin_lines t n).trans h) _ rfl

theorem evacuationLet_lines (s : State) : s.evacuationLet.lines = s.lines := by
  unfold State.evacuationLet
  split
  · exact releaseEvacuation_lines s
  · rfl

/-! ### The rows of the lines -/

theorem exec_lineChange {high : Bool} (h : (counted s).drivePin i high = u) :
    exec (.lineChange i high) s = .next u.arbitrate := h ▸ rfl

theorem exec_settleTimer (h : (counted s).settleLine i = u) : exec (.settleTimer i) s = .next u.arbitrate := h ▸ rfl

/-- The pin takes its level, and the line is watched anew (R192). -/
theorem drivePin_eq (s : State) (i : Fin 6) (high : Bool) : s.drivePin i high =
    { s with lines := s.lines.set i.val { s.lines[i] with
        high := high
        settle := if isInput (s.lines[i]).function = true ∧ (high != (s.lines[i]).inverted) ≠ (s.lines[i]).taken
          then some ((s.lines[i]).settle.getD (s.now + 50)) else none } } := by
  rw [State.drivePin, Line.watch_eq]
  rfl

theorem settleLine_of_cancelled (h : (s.lines[i]).settle = none) : s.settleLine i = s := by
  rw [State.settleLine, h]

/-- The state in which a newly taken level acts: the timer's moment come, the pin's level taken (R192). -/
def State.levelTaken (s : State) (i : Fin 6) (m : Nat) : State :=
  { s with
      now := max s.now m
      lines := s.lines.set i.val { s.lines[i] with
        taken := (s.lines[i]).high != (s.lines[i]).inverted, settle := none } }

theorem settleLine_of_running {m : Nat} (h : (s.lines[i]).settle = some m) : s.settleLine i =
    (s.levelTaken i m).actOnLine i (s.lines[i]).function ((s.lines[i]).high != (s.lines[i]).inverted) := by
  rw [State.settleLine, h]
  rfl

/-- The lines as a LINES_LOAD sets them (R191). -/
def State.loadedLines (s : State) (x : Vector (LineFunction × Bool) 6) : Vector Line 6 :=
  s.lines.mapFinIdx (fun i l _ => l.load x[i] s.now)

theorem loadedLines_index (s : State) (x : Vector (LineFunction × Bool) 6) (i : Fin 6) :
    (s.loadedLines x)[i] = (s.lines[i]).load x[i] s.now := Vector.getElem_mapFinIdx i.isLt

/-- LINES_LOAD answers with the lines it has set, which a release of the evacuation leaves (R191). -/
theorem linesLoad_eq (s : State) (x : Vector (LineFunction × Bool) 6) : s.linesLoad x =
    .accepted { s with lines := s.loadedLines x }.evacuationLet (.lines (s.loadedLines x).toList) := by
  rw [State.linesLoad, State.loadLines, evacuationLet_lines]
  rfl

end Lines

theorem sixLines_entries (x : Vector (LineFunction × Bool) 6) : sixLines x[0] x[1] x[2] x[3] x[4] x[5] = x := by
  refine Vector.ext fun i hi => ?_
  match i, hi with
  | 0, _ | 1, _ | 2, _ | 3, _ | 4, _ | 5, _ => rfl

end Sys2Proof.Machine

namespace Sys2Proof.Proofs
open Sys2Proof Sys2Proof.Machine Sys2Proof.Claims

/-- Settles O42: the last segment of a reply or another, a record in the transmitter or none. -/
theorem transmitterResult : Obligations.TransmitterResult := by
  intro s
  refine ⟨fun n r rs ha hr => ?_, fun ha => ⟨?_, fun n => mem_deferredCabins_iff⟩,
    fun ha => exec_recordSent (recordSent_of_none ha), fun hnone => ?_⟩
  · have hsent := replySent_of_sending (s := counted s) ha hr
    have hsegment := segmentSent_of_sending (s := counted s) ha hr
    have hbusy : (counted s).arbitrate = counted s := arbitrate_of_sending (by rw [counted, ha]; exact Arbiter.noConfusion)
    refine ⟨fun hlast => ?_, fun kind body hnext => ?_⟩
    · rw [if_pos (lastSegment_iff.mpr hlast)] at hsent hsegment
      refine ⟨(exec_replySent hsent).trans ?_, (exec_replySegmentSent hsegment).trans (congrArg _ hbusy)⟩
      simp [State.freeTransmitter, State.dropReply, counted, hr]
    · rw [lastSegment_of_next hnext, if_neg Bool.false_ne_true] at hsent hsegment
      rw [beginSegment_of_body hnext] at hsegment
      exact ⟨(exec_replySegmentSent hsegment).trans (congrArg _ (arbitrate_of_sending Arbiter.noConfusion)),
        (exec_replySent hsent).trans (congrArg _ hbusy)⟩
  · exact exec_recordSent ((recordSent_of_sending (s := counted s) ha).trans (recordLeft_eq _))
  · obtain ⟨hsent, hsegment⟩ := reply_rows_of_none (s := counted s) hnone
    exact ⟨exec_replySent hsent, exec_replySegmentSent hsegment⟩

/-- Settles O40: the lines as LINES_LOAD leaves them, as they are watched, as their levels are taken, and as the outputs
are driven. -/
theorem linesResult : Obligations.LinesResult := by
  intro s
  refine ⟨fun x hr => ⟨s.loadedLines x, fun i => ?_, ?_⟩, fun i high => ?_, fun i => ⟨fun hidle => ?_, fun m hm => ?_⟩,
    fun i => ⟨fun h => ?_, fun h => ?_, fun h => ?_, fun h => ?_⟩⟩
  · exact (loadedLines_index s x i).trans (Line.load_eq ..)
  · have hload : owner (.linesLoad x[0] x[1] x[2] x[3] x[4] x[5]) (framed s) =
        .accepted { framed s with lines := s.loadedLines x }.evacuationLet (.lines (s.loadedLines x).toList) := by
      rw [owner, sixLines_entries]
      exact linesLoad_eq (framed s) x
    refine answers_of_owner hr (fun _ => rfl) trivial (hload.trans ?_)
    rw [State.evacuationLet]
    simp only [evacuationHeld_eq_false_iff]
    rfl
  · exact exec_lineChange (drivePin_eq (counted s) i high)
  · exact exec_settleTimer (settleLine_of_cancelled (s := counted s) hidle)
  · intro level u held
    have hsettle : (counted s).settleLine i = u.actOnLine i (s.lines[i]).function level :=
      settleLine_of_running (s := counted s) hm
    refine ⟨fun hf hl he => ?_, fun hf hl he => ?_, fun hf hl he hfree => ?_, fun hf hl h => ?_, fun hf hl hday => ?_,
      fun _ hf h => ?_, fun hevac hkey => exec_settleTimer (hsettle.trans (actOnLine_of_other hevac hkey))⟩ <;>
      refine exec_settleTimer (hsettle.trans ?_) <;> rw [hf]
    · rw [hl]
      exact (evacuationTaken_eq u i).trans (if_pos he)
    · rw [hl]
      exact (evacuationTaken_eq u i).trans (if_neg (Bool.eq_false_iff.mp he))
    · rw [hl]
      exact evacuationLet_of_last he (Bool.eq_false_iff.mpr (mt evacuationHeld_iff.mp hfree))
    · rw [hl]
      exact evacuationLet_of_held (h.imp_right evacuationHeld_iff.mpr)
    · exact (actOnLine_closeKey u i level).trans (if_pos ⟨hl, hday⟩)
    · exact (actOnLine_closeKey u i level).trans
        (if_neg fun ⟨hl, hday⟩ => h.elim (Bool.eq_false_iff.mp · hl) (· hday))
  · refine outputHigh_of_input ?_
    rcases h with h | h | h <;> (rw [h]; rfl)
  · exact outputHigh_of_output h rfl attentionOut_iff
  · exact outputHigh_of_output h rfl Iff.rfl
  · exact outputHigh_of_output h rfl backpressureOut_iff

end Sys2Proof.Proofs

/-! ## The command lists: what every step keeps (09 R166) -/

namespace Sys2Proof.Machine

section Lists
variable {s t : State} {sp : Fin 4} {a : Fin 32}

/-- A spur port whose lists are bounded keeps the lists of every spur bounded. -/
theorem ListsBounded.putSpur {p : Spur} (hp : ∀ e ∈ p.heads, listBounded e.2.items) (h : ListsBounded s) :
    ListsBounded (s.putSpur sp p) := by
  intro q
  by_cases hq : q = sp
  · subst hq
    rw [State.spur_putSpur_self]
    exact hp
  · rw [State.spur_putSpur_ne s hq]
    exact h q

/-- A head whose list is bounded takes its place among the others. -/
theorem ListsBounded.putHead {x : Head} (hx : listBounded x.items) (h : ListsBounded s) :
    ListsBounded (s.putHead sp a x) := by
  refine h.putSpur fun e he => ?_
  rcases Table.mem_put he with rfl | hold
  · exact hx
  · exact h sp e hold

theorem ListsBounded.dropHead (h : ListsBounded s) : ListsBounded (s.dropHead sp a) :=
  h.putSpur fun e he => h sp e (Table.mem_drop he)

/-- A change of a head's entry that keeps a bounded list bounded. -/
theorem ListsBounded.modHead {f : Head → Head} (hf : ∀ x : Head, listBounded x.items → listBounded (f x).items)
    (h : ListsBounded s) : ListsBounded (s.modHead sp a f) := by
  unfold State.modHead
  split
  · next x hx => exact h.putHead (hf x (h sp (a.val, x) (Table.mem_of_get? hx)))
  · exact h

/-- The list that holds one IDENT alone. -/
theorem listBounded_oneIdent : listBounded [.ident] := listBounded_ident listBounded_nil (by decide)

/-- A RESTART leaves each list of the spur with one IDENT (R171). -/
theorem ListsBounded.restartPort {n : Nat} (h : ListsBounded s) :
    ListsBounded (s.putSpur sp ((s.spur sp).restarted n)) := by
  refine h.putSpur fun e he => ?_
  obtain ⟨x, -, rfl⟩ := List.mem_map.mp he
  exact listBounded_oneIdent

/-- A change that leaves the spurs leaves the lists. -/
theorem ListsBounded.of_spurs (hs : t.spurs = s.spurs) (h : ListsBounded s) : ListsBounded t := by
  intro q
  rw [State.spur, hs]
  exact h q

end Lists

/-- Each primitive change the model makes keeps the command lists bounded: an item placed, withdrawn or carried out, a
good reply, a fresh head and a restarted spur do, and no other change touches a list. -/
theorem kept_listsBounded : Kept ListsBounded where
  time h := h
  alerts h := h
  watches h := h
  write e h := by obtain ⟨-, rfl⟩ := State.write?_eq_some.mp e; exact h
  reserve e h := by obtain ⟨-, rfl⟩ := State.reserve?_eq_some.mp e; exact h
  writeReserve e h := by obtain ⟨-, rfl⟩ := State.writeReserve?_eq_some.mp e; exact h
  convert {s b} h := by obtain ⟨q, e⟩ := s.convert_only b; rw [e]; exact h
  release h := h
  putLocker h := h
  putCabin h := h
  rotors h := h
  classQueues h := h
  tickets h := h
  modBand {s slot f} _ h := by obtain ⟨v, e⟩ := s.modBand_only slot f; rw [e]; exact h
  dropBand h := h
  modHead hf h := h.modHead hf
  port {s sp p} e h := h.putSpur (by rw [e]; exact h sp)
  transmit h := h
  paused h := h
  dropLocker h := h
  dropCabin h := h
  zones h := h
  cabinClasses h := h
  classes h := h
  tariffs h := h
  schedule h := h
  control h := h
  lines h := h
  issue _ _ _ _ h := h
  rename {s slot _ _ new} _ _ _ h := by
    obtain ⟨v, e⟩ := s.modBand_only slot (fun b => { b with serial := new })
    exact h.of_spurs (by rw [State.rename, e])
  evacuation h := h
  timeSet h := h
  openDay _ _ h := h
  beginClosing _ h := h
  makeHead h := h.putHead listBounded_nil
  dropHead h := h.dropHead
  restartPort h := h.restartPort
  assembly h := h
  reset _ := listsBounded_reset
  dropRecord h := h
  minute h := h
  walkWaits _ h := h
  walkWakes _ h := h
  walkPast _ _ _ _ h := h
  closeDay _ _ h := h
  joinReply _ h := h
  dropReply h := h
  count h := h
  pop h := h

end Sys2Proof.Machine

namespace Sys2Proof.Proofs
open Sys2Proof Sys2Proof.Machine Sys2Proof.Claims

/-- Settles O6: each primitive change keeps the bounds of every command list, so every step does. -/
theorem stepKeepsLists : Obligations.StepKeepsLists := fun _ _ h e => kept_listsBounded.step h e

end Sys2Proof.Proofs

/-! ## Items of a command list (09 R166, R167), and movements handed over and ended (04 R74, R75, R79) -/

namespace Sys2Proof.Machine
open Sys2Proof.Claims

section Items
variable {h : Head} {it x : CmdItem} {d : Fin 8}

/-! ### Which item takes the place of which -/

theorem CmdItem.replaces_iff : it.replaces x = true ↔
    (∃ r v w, it = .showAt r v ∧ x = .showAt r w) ∨ (∃ d i j, it = .actuate d i ∧ x = .actuate d j)
      ∨ (∃ v w, it = .lamp v ∧ x = .lamp w) ∨ (it = .ident ∧ x = .ident) ∨ (it = .gate ∧ x = .gate) := by
  unfold CmdItem.replaces
  split
  case h_6 hshow hactuate hlamp hident hgate =>
    refine iff_of_false Bool.false_ne_true ?_
    rintro (⟨r, v, w, hi, hx⟩ | ⟨d, i, j, hi, hx⟩ | ⟨v, w, hi, hx⟩ | ⟨hi, hx⟩ | ⟨hi, hx⟩)
    · exact hshow _ _ _ _ hi hx
    · exact hactuate _ _ _ _ hi hx
    · exact hlamp _ _ hi hx
    · exact hident hi hx
    · exact hgate hi hx
  case h_1 | h_2 => simpa using eq_comm
  case h_3 | h_4 | h_5 => simp

theorem actuate_replaces_iff {dir : Direction} :
    (CmdItem.actuate d dir).replaces x = true ↔ ∃ j, x = .actuate d j := by
  simp [CmdItem.replaces_iff]

/-! ### An item placed (R166; log 9) -/

theorem any_replaces_of_forall (hn : ∀ x ∈ h.items, it.replaces x = false) : ¬h.items.any it.replaces = true := by
  simpa using hn

theorem not_below_of_full {l : List CmdItem} (hl : 16 ≤ l.length) : ¬l.length < Config.commandItems := Nat.not_lt.mpr hl

theorem place_of_room (hn : ∀ x ∈ h.items, it.replaces x = false) (hl : h.items.length < 16) :
    h.place it = { h with items := h.items ++ [it] } := by
  rw [Head.place, if_neg (any_replaces_of_forall hn), if_pos (show h.items.length < Config.commandItems from hl)]

/-- Items none of which is replaced are left as they are. -/
theorem map_replaced_of_forall {l : List CmdItem} (hn : ∀ y ∈ l, it.replaces y = false) :
    l.map (fun x => if it.replaces x = true then it else x) = l :=
  (List.map_congr_left fun y hy => if_neg (Bool.eq_false_iff.mp (hn y hy))).trans (List.map_id l)

theorem place_of_unsent {a b : List CmdItem} (hi : h.items = a ++ x :: b) (hx : it.replaces x = true)
    (hn : ∀ y ∈ a ++ b, it.replaces y = false) : h.place it = { h with items := a ++ it :: b } := by
  have hany : h.items.any it.replaces = true := List.any_eq_true.mpr ⟨x, by simp [hi], hx⟩
  obtain ⟨ha, hb⟩ := List.forall_mem_append.mp hn
  rw [Head.place, if_pos hany, hi, List.map_append, List.map_cons, map_replaced_of_forall ha, if_pos hx,
    map_replaced_of_forall hb]

/-- An IDENT that finds no place is owed. -/
theorem place_ident_of_full (hn : ∀ x ∈ h.items, CmdItem.ident.replaces x = false) (hl : 16 ≤ h.items.length) :
    h.place .ident = { h with identOwed := true } := by
  rw [Head.place, if_neg (any_replaces_of_forall hn), if_neg (not_below_of_full hl), if_pos (beq_self_eq_true _)]

/-- What another item does at a full list: it takes the place of an IDENT, if one is there. -/
theorem place_of_full (hn : ∀ x ∈ h.items, it.replaces x = false) (hl : 16 ≤ h.items.length) (hi : it ≠ .ident) :
    h.place it = if CmdItem.ident ∈ h.items then { h with items := h.items.erase .ident ++ [it], identOwed := true }
      else h := by
  rw [Head.place, if_neg (any_replaces_of_forall hn), if_neg (not_below_of_full hl),
    if_neg (by simpa using hi)]
  simp only [List.contains_iff_mem]

/-! ### An owed IDENT, the poll's load and a withdrawal (R161, R166, R167) -/

theorem payOwed_of_paid (ho : h.identOwed = false) : h.payOwed = h := by
  simp [Head.payOwed, ho]

theorem payOwed_of_room (ho : h.identOwed = true) (hl : h.items.length < 16) :
    h.payOwed = { h with items := h.items ++ [.ident], identOwed := false } := by
  have hroom : h.items.length < Config.commandItems := hl
  rw [Head.payOwed, ho, Bool.true_and, if_pos (decide_eq_true hroom)]

/-- The items a poll carries are the load of the head. -/
theorem carried_eq_load (h : Head) : h.carried = load h := by
  unfold Head.carried load
  simp only [Head.active_iff]
  rfl

theorem not_active_of_idle (hs : h.state = .silent ∨ h.state = .mismatched) :
    ¬(h.state = .identifying ∨ h.state = .online) := by
  rcases hs with hs | hs <;> simp [hs]

theorem carried_of_idle (hs : h.state = .silent ∨ h.state = .mismatched) : h.carried = [] := by
  rw [carried_eq_load, load, if_neg (not_active_of_idle hs)]

theorem afterPoll_of_none (hc : h.carried = []) : h.afterPoll = h := by
  simp [Head.afterPoll, hc]

theorem afterPoll_of_carried (hc : h.carried ≠ []) : h.afterPoll = { h with items := h.items.drop 4 }.payOwed := by
  rw [Head.afterPoll, if_neg (by simpa using hc)]
  rfl

/-- A list that a poll carries items of has a place behind them. -/
theorem length_drop_of_carried (hc : h.carried ≠ []) (hl : h.items.length ≤ 16) : (h.items.drop 4).length < 16 := by
  have hne : h.items ≠ [] := by
    rintro he
    simp [carried_eq_load, load, he] at hc
  have := List.length_pos_iff.mpr hne
  rw [List.length_drop]
  omega

theorem withdraw_of_absent (hn : ∀ dir, CmdItem.actuate d dir ∉ h.items) : h.withdraw d = h := by
  have hkept : h.items.filter (fun x => !(CmdItem.actuate d .throw).replaces x) = h.items := by
    refine List.filter_eq_self.mpr fun x hx => ?_
    rw [Bool.not_eq_true', Bool.eq_false_iff, ne_eq, actuate_replaces_iff]
    rintro ⟨j, rfl⟩
    exact hn j hx
  simp only [Head.withdraw, hkept, Nat.lt_irrefl, if_false]

/-- The unsent ACTUATE leaves the list, and the items behind it close up. -/
theorem withdraw_of_unsent {a b : List CmdItem} {dir : Direction} (hi : h.items = a ++ .actuate d dir :: b)
    (hn : ∀ dir', CmdItem.actuate d dir' ∉ a ++ b) : h.withdraw d = { h with items := a ++ b }.payOwed := by
  have hother : ∀ l : List CmdItem, (∀ x ∈ l, x ∈ a ++ b) →
      l.filter (fun x => !(CmdItem.actuate d .throw).replaces x) = l := by
    refine fun l hl => List.filter_eq_self.mpr fun x hx => ?_
    rw [Bool.not_eq_true', Bool.eq_false_iff, ne_eq, actuate_replaces_iff]
    rintro ⟨j, rfl⟩
    exact hn j (hl _ hx)
  have hgone : (!(CmdItem.actuate d .throw).replaces (.actuate d dir)) = false := by
    rw [Bool.not_eq_false', actuate_replaces_iff]
    exact ⟨dir, rfl⟩
  have hkept : h.items.filter (fun x => !(CmdItem.actuate d .throw).replaces x) = a ++ b := by
    rw [hi, List.filter_append, List.filter_cons_of_neg (by simp [hgone]),
      hother a fun x hx => List.mem_append_left b hx, hother b fun x hx => List.mem_append_right a hx]
  have hshort : (a ++ b).length < h.items.length := by simp [hi]
  simp only [Head.withdraw, hkept, if_pos hshort]

end Items

/-! ### Lists of enrolled heads, and the doors' movements -/

section Doors
variable {s : State} {sp : Fin 4} {a : Fin 32}

theorem modHead_of_absent (h : s.head? sp a = none) (f : Head → Head) : s.modHead sp a f = s := by
  rw [State.modHead, h]

/-- The action a hand-over starts (R74, R75). -/
theorem handOver_eq (d : DoorId) (dir : Direction) (p : Purpose) (x y : Option Serial) (sl : Bool) :
    s.handOver d dir p x y sl = (s.doorHome d).elim (s.setAction d (some (newAction s dir p x y sl)))
      fun home => (s.setAction d (some (newAction s dir p x y sl))).place home.1 home.2.1 (.actuate home.2.2 dir) := by
  rw [State.handOver, State.startAttempt]
  cases s.doorHome d <;> rfl

theorem handOver_locker {n : Fin 1024} {l : Locker} (hl : s.locker? n = some l) (dir : Direction) (p : Purpose)
    (x y : Option Serial) (sl : Bool) : s.handOver (.locker n) dir p x y sl =
      (withLocker s n { l with action := some (newAction s dir p x y sl) }).place (lockerSpur n) (lockerAddress n)
        (.actuate (lockerDoor n) dir) := by
  rw [handOver_eq, State.setAction, State.modLocker_of s hl]
  rfl

theorem handOver_cabin {n : Fin 64} {c : Cabin} (hc : s.cabin? n = some c) (dir : Direction) (p : Purpose)
    (x y : Option Serial) (sl : Bool) : s.handOver (.cabin n) dir p x y sl =
      (withCabin s n { c with action := some (newAction s dir p x y sl) }).place c.spur c.address (.actuate 0 dir) := by
  rw [handOver_eq, State.setAction, State.modCabin_of s hc, State.doorHome, hc]
  rfl

theorem endAction_of_locker {n : Fin 1024} {l : Locker} (hl : s.locker? n = some l) : s.endAction (.locker n) =
    withLocker (s.modHead (lockerSpur n) (lockerAddress n) (·.withdraw (lockerDoor n))) n { l with action := none } := by
  obtain ⟨v, hv⟩ := s.modHead_only (lockerSpur n) (lockerAddress n) (·.withdraw (lockerDoor n))
  rw [State.endAction, State.withdraw, State.doorHome]
  dsimp only
  rw [hv]
  exact State.modLocker_of { s with spurs := v } hl _

theorem endAction_of_cabin {n : Fin 64} {c : Cabin} (hc : s.cabin? n = some c) : s.endAction (.cabin n) =
    withCabin (s.modHead c.spur c.address (·.withdraw 0)) n { c with action := none } := by
  obtain ⟨v, hv⟩ := s.modHead_only c.spur c.address (·.withdraw 0)
  rw [State.endAction, State.withdraw, State.doorHome, hc]
  dsimp only [Option.map_some]
  rw [hv]
  exact State.modCabin_of { s with spurs := v } hc _

end Doors

end Sys2Proof.Machine

namespace Sys2Proof.Proofs
open Sys2Proof Sys2Proof.Machine Sys2Proof.Claims

/-- Settles O46: an item placed by the four cases of the list, the poll's load, a withdrawal, and a movement's two
ends. -/
theorem commandListRules : Obligations.CommandListRules := by
  refine ⟨fun h it => ⟨place_of_room, fun a b x hi hx hn => place_of_unsent hi hx hn, ?_, ?_⟩,
    fun it x => CmdItem.replaces_iff, fun s sp a it d => ⟨fun h hh => ?_, fun hh => ?_⟩,
    fun h => ⟨fun hs => ?_, fun hs => ?_, fun hc ho => ?_, fun hc ho hl => ?_⟩,
    fun h d => ⟨withdraw_of_absent, fun a b dir hi hn => ?_⟩,
    fun s dir p x y sl => ⟨fun n l hl => ?_, fun n c hc => ?_⟩⟩
  · rintro hn hl rfl
    exact place_ident_of_full hn hl
  · intro hn hl hit
    refine ⟨fun hno => ?_, fun a b hi ha => ?_⟩
    · rw [place_of_full hn hl hit, if_neg hno]
    · rw [place_of_full hn hl hit, if_pos (by simp [hi]), hi, List.erase_append_right _ ha, List.erase_cons_head]
  · exact ⟨State.modHead_of_some hh _, State.modHead_of_some hh _⟩
  · exact ⟨modHead_of_absent hh _, modHead_of_absent hh _⟩
  · rw [carried_eq_load, load, if_pos hs]
  · exact ⟨carried_of_idle hs, afterPoll_of_none (carried_of_idle hs)⟩
  · exact (afterPoll_of_carried hc).trans (payOwed_of_paid ho)
  · exact (afterPoll_of_carried hc).trans (payOwed_of_room ho (length_drop_of_carried hc hl))
  · rw [withdraw_of_unsent hi hn]
    refine ⟨fun ho => payOwed_of_paid ho, fun ho hl => payOwed_of_room ho ?_⟩
    have : h.items.length = (a ++ b).length + 1 := by simp [hi, Nat.add_assoc]
    dsimp only
    omega
  · exact ⟨handOver_locker hl dir p x y sl, endAction_of_locker hl⟩
  · exact ⟨handOver_cabin hc dir p x y sl, endAction_of_cabin hc⟩

end Sys2Proof.Proofs

/-! ## A head's entry changed, and HEAD_ENROL (09 R161, R164, R168) -/

namespace Sys2Proof.Machine
open Sys2Proof.Claims

/-! ### Reads after a change of a head's entry -/

section Entry
variable {s : State} {sp : Fin 4} {a : Fin 32}

@[simp] theorem spur_putHead_self (s : State) (sp : Fin 4) (a : Fin 32) (x : Head) : (s.putHead sp a x).spur sp =
    { s.spur sp with heads := Table.put a.val (x.refresh s.eventNo) (s.spur sp).heads } := by
  simp [State.putHead]

@[simp] theorem head?_putHead_self (s : State) (sp : Fin 4) (a : Fin 32) (x : Head) :
    (s.putHead sp a x).head? sp a = some (x.refresh s.eventNo) := by
  simp [State.head?]

/-- The later of two changes of a head's entry stands. -/
theorem putHead_putHead (x y : Head) : (s.putHead sp a x).putHead sp a y = s.putHead sp a y := by
  unfold State.putHead
  simp [putSpur_putSpur]

/-- A head whose entry has just been written is changed in its place. -/
theorem modHead_putHead (x : Head) (f : Head → Head) :
    (s.putHead sp a x).modHead sp a f = s.putHead sp a (f (x.refresh s.eventNo)) := by
  rw [State.modHead_of_some (head?_putHead_self ..), putHead_putHead]

/-- A change of a head's entry leaves the exchange of its spur. -/
theorem exchange_modHead (f : Head → Head) : ((s.modHead sp a f).spur sp).exchange = (s.spur sp).exchange := by
  unfold State.modHead
  split
  · rw [spur_putHead_self]
  · rfl

end Entry

/-! ### HEAD_ENROL: the operands (R168, R182) -/

theorem enrolment_range {t x : Byte} (h : 3 < t.toNat ∨ (t = 0 ∧ (x = 0 ∨ 8 < x.toNat)) ∨ (t = 1 ∧ 63 < x.toNat)
    ∨ (t = 2 ∧ 15 < x.toNat) ∨ (t = 3 ∧ x ≠ 0)) :
    (headTypeOf t.toNat).bind (fun k => enrolmentOf k x.toNat) = none := by
  rcases h with ht | ⟨rfl, hx⟩ | ⟨rfl, hx⟩ | ⟨rfl, hx⟩ | ⟨rfl, hx⟩
  · obtain ⟨m, hm⟩ : ∃ m, t.toNat = m + 4 := ⟨t.toNat - 4, by omega⟩
    rw [hm]
    rfl
  · have hout : ¬(1 ≤ x.toNat ∧ x.toNat ≤ 8) := by
      rcases hx with rfl | hx
      · decide
      · omega
    exact if_neg hout
  · exact congrArg (Option.map Enrolment.cabin) (below_of_le hx)
  · exact congrArg (Option.map Enrolment.kiosk) (below_of_le hx)
  · have hout : ¬x.toNat = 0 := fun h0 => hx (BitVec.eq_of_toNat_eq h0)
    exact if_neg hout

/-- A LOCK head's door count is in its range (R168). -/
def Enrolment.Fits (e : Enrolment) : Prop := ∀ k, e = .lock k → 1 ≤ k ∧ k ≤ 8

/-- The type and parameter bytes of an enrolment read as that enrolment. -/
theorem enrolment_enrolCodes {e : Enrolment} (h : e.Fits) :
    (headTypeOf (enrolCodes e).1.toNat).bind (fun k => enrolmentOf k (enrolCodes e).2.toNat) = some e := by
  cases e with
  | lock k =>
    obtain ⟨hlow, hhigh⟩ := h k rfl
    have hk : (BitVec.ofNat 8 k).toNat = k := by rw [BitVec.toNat_ofNat]; omega
    change (if 1 ≤ (BitVec.ofNat 8 k).toNat ∧ (BitVec.ofNat 8 k).toNat ≤ 8
      then some (Enrolment.lock (BitVec.ofNat 8 k).toNat) else none) = _
    rw [hk, if_pos ⟨hlow, hhigh⟩]
  | cabin n => exact congrArg (Option.map Enrolment.cabin) (below_byte n (by decide))
  | kiosk z => exact congrArg (Option.map Enrolment.kiosk) (below_byte z (by decide))
  | exit => rfl

section Enrol
variable {s : State} {sp : Fin 4} {a : Fin 32} {e : Enrolment}

theorem headEnrol_range {p x t y : Byte} (h : 3 < p.toNat ∨ 31 < x.toNat ∨ 3 < t.toNat
    ∨ (t = 0 ∧ (y = 0 ∨ 8 < y.toNat)) ∨ (t = 1 ∧ 63 < y.toNat) ∨ (t = 2 ∧ 15 < y.toNat) ∨ (t = 3 ∧ y ≠ 0)) :
    s.headEnrol p x t y = .refused .range := by
  unfold State.headEnrol
  rcases h with hp | hx | he
  · rw [below_of_le hp]
  · rw [below_of_le hx]
    cases below 4 p.toNat <;> rfl
  · rw [enrolment_range he]
    cases below 4 p.toNat <;> cases below 32 x.toNat <;> rfl

theorem headEnrol_enrolCodes (h : e.Fits) :
    s.headEnrol (BitVec.ofNat 8 sp.val) (BitVec.ofNat 8 a.val) (enrolCodes e).1 (enrolCodes e).2 = s.enrolAt sp a e := by
  rw [State.headEnrol, below_byte sp (by decide), below_byte a (by decide), enrolment_enrolCodes h]

/-! ### HEAD_ENROL: the refusals (R168) -/

/-- Another enrolled CABIN head has the cabin number of an enrolment (R168). -/
def NumberTaken (s : State) (sp : Fin 4) (a : Fin 32) (e : Enrolment) : Prop :=
  ∃ n, e = .cabin n ∧ ∃ (q : Fin 4) (x : Nat × Head), x ∈ (s.spurs[q]).heads ∧ x.2.enrolment = .cabin n
    ∧ (q, x.1) ≠ (sp, a.val)

theorem cabinTaken_iff {n : Fin 64} : s.cabinTaken sp a n = true ↔
    ∃ (q : Fin 4) (x : Nat × Head), x ∈ (s.spurs[q]).heads ∧ x.2.enrolment = .cabin n ∧ (q, x.1) ≠ (sp, a.val) := by
  simp only [State.cabinTaken, State.spur, List.any_eq_true, List.mem_finRange, true_and, Bool.and_eq_true, beq_iff_eq,
    Bool.not_eq_true', Bool.and_eq_false_iff, beq_eq_false_iff_ne, ne_eq, Prod.mk.injEq, Classical.not_and_iff_not_or_not]

theorem enrolClash_iff : s.enrolClash sp a e = true ↔ NumberTaken s sp a e := by
  cases e with
  | cabin n => simp only [State.enrolClash, cabinTaken_iff, NumberTaken, Enrolment.cabin.injEq, exists_eq_left']
  | _ => simp [State.enrolClash, NumberTaken]

theorem enrolAt_taken (h : NumberTaken s sp a e) : s.enrolAt sp a e = .refused .inUse := by
  unfold State.enrolAt
  rw [enrolClash_iff.mpr h]
  cases s.head? sp a with
  | none => rfl
  | some x => exact ite_self _

theorem enrolAt_used {x : Head} (hx : s.head? sp a = some x) (hs : x.state ≠ .mismatched) :
    s.enrolAt sp a e = .refused .inUse := by
  unfold State.enrolAt
  rw [hx]
  exact if_pos hs

/-- What HEAD_ENROL does at a MISMATCHED head (R168). -/
theorem enrolAt_mismatched {x : Head} (ht : ¬NumberTaken s sp a e) (hx : s.head? sp a = some x)
    (hs : x.state = .mismatched) : s.enrolAt sp a e =
      if x.enrolment = e then
        .accepted (((s.modHead sp a (fun h => { h with state := .identifying, misses := 0 })).place sp a .ident).wakeSpur
          sp) (.headState .identifying)
      else (s.removalRefusal sp a x.enrolment).elim
        (.accepted (((s.removeHead sp a x.enrolment).makeHead sp a e).wakeSpur sp) (.headState .identifying))
        .refused := by
  unfold State.enrolAt
  rw [hx]
  dsimp only
  rw [if_neg (not_not_intro hs), if_neg (mt enrolClash_iff.mp ht)]
  cases s.removalRefusal sp a x.enrolment <;> rfl

theorem enrolAt_held {x : Head} {r : RefusalCode} (ht : ¬NumberTaken s sp a e) (hx : s.head? sp a = some x)
    (hs : x.state = .mismatched) (he : x.enrolment ≠ e) (hr : Held s sp a x.enrolment r) :
    s.enrolAt sp a e = .refused r := by
  rw [enrolAt_mismatched ht hx hs, if_neg he, removalRefusal_eq_some_iff.mpr hr]
  rfl

/-! ### HEAD_ENROL: the head and its doors (R50, R99, R165, R168) -/

/-- The lockers of some doors of a head are created, one after another. -/
theorem foldl_putLocker (k : Nat) (ds : List (Fin 8)) :
    ds.foldl (fun s i => if i.val < k then s.putLocker (lockerAt sp a i) Locker.fresh else s) s =
      { s with lockers := ((ds.filter (fun i => i.val < k)).map Fin.val).foldl (fun t i =>
          Table.put (sp.val * 256 + a.val * 8 + i) Locker.fresh t) s.lockers } := by
  induction ds generalizing s with
  | nil => rfl
  | cons i ds ih =>
    rw [List.foldl_cons, ih, List.filter_cons]
    by_cases hi : i.val < k
    · rw [if_pos hi, if_pos (decide_eq_true hi)]
      rfl
    · rw [if_neg hi, if_neg (by simpa using hi)]

theorem createDoors_eq (h : e.Fits) : s.createDoors sp a e = withDoors s sp a e := by
  cases e with
  | lock k =>
    have hdoors : ∀ k ≤ 8, ((List.finRange 8).filter (fun i => i.val < k)).map Fin.val = List.range k := by decide
    simp only [State.createDoors, withDoors, foldl_putLocker, hdoors k (h k rfl).2]
    rfl
  | cabin | kiosk | exit => rfl

/-- A head made at an address is IDENTIFYING with one IDENT, due since this event, and has its doors. -/
theorem makeHead_eq (h : e.Fits) : s.makeHead sp a e =
    withDoors (withSpur s sp { s.spurs[sp] with
      heads := Table.put a.val ⟨.identifying, e, 0, false, some s.eventNo, false, [.ident]⟩ (s.spurs[sp]).heads }) sp a
      e := by
  rw [State.makeHead, createDoors_eq h, State.place, modHead_putHead]
  rfl

/-- A spur that had no exchange before a change that starts none begins to poll. -/
theorem wakeSpur_eq {t : State} (h : (t.spur sp).exchange = none ↔ (s.spurs[sp]).exchange = none) :
    t.wakeSpur sp = if (s.spurs[sp]).exchange = none then t.beginPoll sp else t := by
  simp only [State.wakeSpur, Option.isNone_iff_eq_none, h]

@[simp] theorem withDoors_spurs (s : State) (sp : Fin 4) (a : Fin 32) (e : Enrolment) :
    (withDoors s sp a e).spurs = s.spurs := by cases e <;> rfl

@[simp] theorem withoutDoors_spurs (s : State) (sp : Fin 4) (a : Fin 32) (e : Enrolment) :
    (withoutDoors s sp a e).spurs = s.spurs := by cases e <;> rfl

theorem exchange_makeHead (h : e.Fits) :
    ((s.makeHead sp a e).spur sp).exchange = (s.spurs[sp]).exchange := by
  simp [makeHead_eq h, State.spur, withSpur]

/-- A removal marks an exchange and ends none. -/
theorem exchange_removeHead_eq_none_iff (x : Enrolment) :
    ((s.removeHead sp a x).spurs[sp]).exchange = none ↔ (s.spurs[sp]).exchange = none := by
  simp [removeHead_eq, Spur.without, State.spur]

theorem enrolAt_fresh (he : e.Fits) (ht : ¬NumberTaken s sp a e)
    (hx : s.head? sp a = none) : s.enrolAt sp a e =
      .accepted (if (s.spurs[sp]).exchange = none then (s.makeHead sp a e).beginPoll sp else s.makeHead sp a e)
        (.headState .identifying) := by
  unfold State.enrolAt
  rw [hx]
  dsimp only
  rw [if_neg (mt enrolClash_iff.mp ht), wakeSpur_eq (by rw [exchange_makeHead he])]

theorem enrolAt_again {x : Head} (ht : ¬NumberTaken s sp a e) (hx : s.head? sp a = some x)
    (hs : x.state = .mismatched) (he : x.enrolment = e) :
    let made := (s.modHead sp a (fun h => { h with state := .identifying, misses := 0 })).place sp a .ident
    s.enrolAt sp a e =
      .accepted (if (s.spurs[sp]).exchange = none then made.beginPoll sp else made) (.headState .identifying) := by
  intro made
  have hkept : (made.spur sp).exchange = (s.spurs[sp]).exchange := (exchange_modHead _).trans (exchange_modHead _)
  rw [enrolAt_mismatched ht hx hs, if_pos he, wakeSpur_eq (by rw [hkept])]

theorem enrolAt_replaced {x : Head} (h : e.Fits) (ht : ¬NumberTaken s sp a e)
    (hx : s.head? sp a = some x) (hs : x.state = .mismatched) (he : x.enrolment ≠ e)
    (hr : ∀ r, ¬Held s sp a x.enrolment r) :
    let made := (s.removeHead sp a x.enrolment).makeHead sp a e
    s.enrolAt sp a e =
      .accepted (if (s.spurs[sp]).exchange = none then made.beginPoll sp else made) (.headState .identifying) := by
  intro made
  have hnone : s.removalRefusal sp a x.enrolment = none :=
    Option.eq_none_iff_forall_ne_some.mpr fun r hsome => hr r (removalRefusal_eq_some_iff.mp hsome)
  have hidle : (made.spur sp).exchange = none ↔ (s.spurs[sp]).exchange = none := by
    rw [exchange_makeHead h, exchange_removeHead_eq_none_iff]
  rw [enrolAt_mismatched ht hx hs, if_neg he, hnone, Option.elim_none, wakeSpur_eq hidle]

end Enrol

end Sys2Proof.Machine

namespace Sys2Proof.Proofs
open Sys2Proof Sys2Proof.Machine Sys2Proof.Claims

/-- Settles O35: the refusals, then a fresh head, a MISMATCHED one enrolled again, and one enrolled anew. -/
theorem headEnrolResult : Obligations.HeadEnrolResult := by
  intro s hr
  refine ⟨fun p a t x h => refuses_of_owner hr (fun _ => rfl) trivial (headEnrol_range h), fun sp a e he => ?_⟩
  have hcodes := headEnrol_enrolCodes (s := framed s) (sp := sp) (a := a) he
  intro c taken
  refine ⟨fun ht => ?_, fun x hx hs => ?_, fun ht hx => ?_, fun ht x hx hs hsame => ?_,
    fun ht x hx hs hother => ⟨fun r hheld => ?_, fun hfree => ?_⟩⟩
  · exact refuses_of_owner hr (fun _ => rfl) trivial (hcodes.trans (enrolAt_taken (s := framed s) ht))
  · exact refuses_of_owner hr (fun _ => rfl) trivial (hcodes.trans (enrolAt_used (s := framed s) hx hs))
  · have hmade := enrolAt_fresh (s := framed s) he ht hx
    rw [makeHead_eq he] at hmade
    exact answers_of_owner hr (fun _ => rfl) trivial (hcodes.trans hmade)
  · exact answers_of_owner hr (fun _ => rfl) trivial (hcodes.trans (enrolAt_again (s := framed s) ht hx hs hsame))
  · exact refuses_of_owner hr (fun _ => rfl) trivial (hcodes.trans (enrolAt_held (s := framed s) ht hx hs hother hheld))
  · exact answers_of_owner hr (fun _ => rfl) trivial
      (hcodes.trans (enrolAt_replaced (s := framed s) he ht hx hs hother hfree))

end Sys2Proof.Proofs

/-! ## The exchanges of a spur (09 R155, R156, R162 to R167, R184) -/

namespace Sys2Proof.Machine
open Sys2Proof.Claims

/-! ### The fast slots (R163) -/

section Fast
variable {p q : Spur} {r : Round} {a : Fin 32}

theorem activeAt_iff : p.activeAt a = true ↔ ActiveAt p a := by
  simp only [Spur.activeAt, Spur.head?, ActiveAt, Option.any_eq_true, Head.active_iff]

/-- What is left of a list from the first entry on that fails a test. -/
theorem dropWhile_eq_cons_iff {α : Type} {f : α → Bool} {l rest : List α} {x : α} :
    l.dropWhile f = x :: rest ↔ ∃ skipped, l = skipped ++ x :: rest ∧ f x = false ∧ ∀ y ∈ skipped, f y = true := by
  constructor
  · intro h
    induction l with
    | nil => exact absurd h.symm (List.cons_ne_nil x rest)
    | cons y l ih =>
      by_cases hy : f y = true
      · rw [List.dropWhile_cons_of_pos hy] at h
        obtain ⟨skipped, hl, hx, hs⟩ := ih h
        exact ⟨y :: skipped, by rw [hl, List.cons_append], hx, List.forall_mem_cons.mpr ⟨hy, hs⟩⟩
      · rw [List.dropWhile_cons_of_neg hy] at h
        obtain ⟨rfl, rfl⟩ := List.cons.inj h
        exact ⟨[], rfl, Bool.eq_false_iff.mpr hy, fun _ hz => absurd hz List.not_mem_nil⟩
  · rintro ⟨skipped, rfl, hx, hs⟩
    rw [List.dropWhile_append_of_pos hs, List.dropWhile_cons_of_neg (Bool.eq_false_iff.mp hx)]

/-- Nothing is left of a list whose every entry passes. -/
theorem dropWhile_eq_nil_iff {α : Type} {f : α → Bool} {l : List α} : l.dropWhile f = [] ↔ ∀ x ∈ l, f x = true := by
  induction l with
  | nil => exact iff_of_true rfl fun _ hx => absurd hx List.not_mem_nil
  | cons y l ih =>
    by_cases hy : f y = true
    · rw [List.dropWhile_cons_of_pos hy, ih, List.forall_mem_cons, and_iff_right hy]
    · rw [List.dropWhile_cons_of_neg hy]
      exact iff_of_false (List.cons_ne_nil y l) fun h => hy (h y List.mem_cons_self)

theorem fastTurn_eq_some_iff : p.fastTurn r = some (a, q) ↔
    ∃ skipped rest, r.fastLeft = skipped ++ a :: rest ∧ ActiveAt p a ∧ (∀ x ∈ skipped, ¬ActiveAt p x)
      ∧ q = { p with round := some { r with fastLeft := rest, polled := a :: r.polled } } := by
  have hleft : ∀ b rest, r.fastLeft.dropWhile (fun a => !p.activeAt a) = b :: rest ↔
      ∃ skipped, r.fastLeft = skipped ++ b :: rest ∧ ActiveAt p b ∧ ∀ x ∈ skipped, ¬ActiveAt p x := by
    intro b rest
    simp only [dropWhile_eq_cons_iff, Bool.not_eq_false', Bool.not_eq_true', ← activeAt_iff, Bool.not_eq_true]
  unfold Spur.fastTurn
  cases hd : r.fastLeft.dropWhile (fun a => !p.activeAt a) with
  | nil =>
    refine iff_of_false (by simp) ?_
    rintro ⟨skipped, rest, hl, ha, hs, -⟩
    rw [(hleft a rest).mpr ⟨skipped, hl, ha, hs⟩] at hd
    exact List.cons_ne_nil _ _ hd
  | cons b rest =>
    simp only [Option.some.injEq, Prod.mk.injEq]
    constructor
    · rintro ⟨rfl, rfl⟩
      obtain ⟨skipped, hl, ha, hs⟩ := (hleft b rest).mp hd
      exact ⟨skipped, rest, hl, ha, hs, rfl⟩
    · rintro ⟨skipped, rest', hl, ha, hs, rfl⟩
      obtain ⟨rfl, rfl⟩ := List.cons.inj (hd.symm.trans ((hleft a rest').mpr ⟨skipped, hl, ha, hs⟩))
      exact ⟨rfl, rfl⟩

theorem fastTurn_eq_none_iff : p.fastTurn r = none ↔ ∀ x ∈ r.fastLeft, ¬ActiveAt p x := by
  have hnil : r.fastLeft.dropWhile (fun a => !p.activeAt a) = [] ↔ ∀ x ∈ r.fastLeft, ¬ActiveAt p x := by
    simp only [dropWhile_eq_nil_iff, ← activeAt_iff, Bool.not_eq_true', Bool.not_eq_true]
  unfold Spur.fastTurn
  cases hd : r.fastLeft.dropWhile (fun a => !p.activeAt a) with
  | nil => exact iff_of_true rfl (hnil.mp hd)
  | cons b rest => exact iff_of_false (by simp) fun h => by simp [hnil.mpr h] at hd

end Fast

/-! ### The promoted turns (R164) -/

/-- An entry stands before another: its moment is earlier, or the moments are equal and its address is no higher. -/
def Earlier (e f : Nat × Fin 32) : Prop := e.1 < f.1 ∨ e.1 = f.1 ∧ e.2 ≤ f.2

theorem Earlier.antisymm {e f : Nat × Fin 32} (hef : Earlier e f) (hfe : Earlier f e) : e = f := by
  obtain ⟨m, a⟩ := e
  obtain ⟨k, b⟩ := f
  simp only [Earlier] at hef hfe
  simp only [Prod.mk.injEq]
  omega

theorem earliest_eq_none_iff {l : List (Nat × Fin 32)} : earliest l = none ↔ l = [] := by
  cases l with
  | nil => exact iff_of_true rfl rfl
  | cons x rest =>
    refine iff_of_false ?_ (List.cons_ne_nil x rest)
    unfold earliest
    cases earliest rest with
    | none => simp
    | some y => dsimp only; split <;> simp

/-- The earliest of a list in ascending address is an entry before all the others. -/
theorem earliest_least {l : List (Nat × Fin 32)} {e : Nat × Fin 32} (hl : l.Pairwise (fun x y => x.2 < y.2))
    (h : earliest l = some e) : e ∈ l ∧ ∀ f ∈ l, Earlier e f := by
  induction l generalizing e with
  | nil => simp [earliest] at h
  | cons x rest ih =>
    obtain ⟨hx, hrest⟩ := List.pairwise_cons.mp hl
    have hfirst : ∀ f ∈ rest, x.1 ≤ f.1 → Earlier x f := fun f hf hle => by
      have := hx f hf
      unfold Earlier
      omega
    cases hr : earliest rest with
    | none =>
      obtain rfl : x = e := by simpa [earliest, hr] using h
      obtain rfl : rest = [] := earliest_eq_none_iff.mp hr
      exact ⟨List.mem_cons_self, by simp [Earlier]⟩
    | some y =>
      obtain ⟨hy, hleast⟩ := ih hrest hr
      by_cases hlt : y.1 < x.1
      · obtain rfl : y = e := by simpa [earliest, hr, hlt] using h
        exact ⟨List.mem_cons_of_mem _ hy, List.forall_mem_cons.mpr ⟨.inl hlt, hleast⟩⟩
      · obtain rfl : x = e := by simpa [earliest, hr, hlt] using h
        refine ⟨List.mem_cons_self, List.forall_mem_cons.mpr ⟨.inr ⟨rfl, Nat.le_refl _⟩, fun f hf => hfirst f hf ?_⟩⟩
        have := hleast f hf
        unfold Earlier at this
        omega

theorem earliest_eq_some_iff {l : List (Nat × Fin 32)} {e : Nat × Fin 32} (hl : l.Pairwise (fun x y => x.2 < y.2)) :
    earliest l = some e ↔ e ∈ l ∧ ∀ f ∈ l, Earlier e f := by
  refine ⟨earliest_least hl, fun ⟨he, hleast⟩ => ?_⟩
  cases hr : earliest l with
  | none =>
    rw [earliest_eq_none_iff.mp hr] at he
    exact absurd he List.not_mem_nil
  | some y =>
    obtain ⟨hy, hbefore⟩ := earliest_least hl hr
    rw [(hleast y hy).antisymm (hbefore e he)]

section Promoted
variable {p q : Spur} {r : Round} {a : Fin 32}

theorem Head.due_iff {h : Head} : h.due = true ↔ (h.state = .identifying ∨ h.state = .online)
    ∧ (h.items ≠ [] ∨ h.more = true ∨ h.identOwed = true) := by
  simp [Head.due, Head.active_iff, or_assoc]

/-- The due head at an address not yet polled in a round, with its moment. -/
def Spur.candidate (p : Spur) (r : Round) (a : Fin 32) : Option (Nat × Fin 32) :=
  match p.head? a with
  | some h => if h.due && !r.polled.contains a then h.pendingSince.map (fun t => (t, a)) else none
  | none => none

theorem candidates_eq : p.candidates r = (List.finRange 32).filterMap (p.candidate r) := rfl

theorem dueSince_iff {m : Nat} :
    DueSince p a m ↔ ∃ h, p.head? a = some h ∧ h.due = true ∧ h.pendingSince = some m := by
  simp only [DueSince, Head.due_iff, Spur.head?, and_assoc]

theorem candidate_eq_some_iff {e : Nat × Fin 32} :
    p.candidate r a = some e ↔ e.2 = a ∧ DueSince p a e.1 ∧ a ∉ r.polled := by
  obtain ⟨m, b⟩ := e
  rw [Spur.candidate, dueSince_iff]
  cases p.head? a with
  | none => simp
  | some h =>
    have hcond : (h.due && !r.polled.contains a) = true ↔ h.due = true ∧ a ∉ r.polled := by simp
    simp only [hcond, Option.some.injEq, exists_eq_left']
    by_cases hc : h.due = true ∧ a ∉ r.polled
    · rw [if_pos hc, Option.map_eq_some_iff]
      obtain ⟨hd, hp⟩ := hc
      constructor
      · rintro ⟨k, hk, heq⟩
        obtain ⟨rfl, rfl⟩ := Prod.mk.inj heq
        exact ⟨rfl, ⟨hd, hk⟩, hp⟩
      · rintro ⟨rfl, ⟨_, hm⟩, _⟩
        exact ⟨m, hm, rfl⟩
    · rw [if_neg hc]
      exact iff_of_false (by simp) fun ⟨_, ⟨hd, _⟩, hp⟩ => hc ⟨hd, hp⟩

theorem mem_candidates_iff {m : Nat} : (m, a) ∈ p.candidates r ↔ DueSince p a m ∧ a ∉ r.polled := by
  simp only [candidates_eq, List.mem_filterMap, List.mem_finRange, true_and, candidate_eq_some_iff, exists_eq_left']

theorem sorted_candidates : (p.candidates r).Pairwise (fun x y => x.2 < y.2) := by
  refine List.pairwise_filterMap.mpr ((List.pairwise_lt_finRange 32).imp fun hlt x hx y hy => ?_)
  rwa [(candidate_eq_some_iff.mp hx).1, (candidate_eq_some_iff.mp hy).1]

/-- The promoted head is the earliest of the candidates. -/
theorem promotedNext_iff : PromotedNext p r a ↔ 0 < r.promotedLeft ∧ ∃ m, earliest (p.candidates r) = some (m, a) := by
  simp only [PromotedNext, earliest_eq_some_iff sorted_candidates, mem_candidates_iff, Prod.forall, Earlier, and_imp]
  refine and_congr_right fun _ => ⟨?_, ?_⟩
  · rintro ⟨hp, m, hm, hleast⟩
    exact ⟨m, ⟨hm, hp⟩, fun k b hb hnot => hleast b k hb hnot⟩
  · rintro ⟨m, ⟨hm, hp⟩, hleast⟩
    exact ⟨hp, m, hm, fun b k hb hnot => hleast k b hb hnot⟩

theorem promotedTurn_eq_some_iff : p.promotedTurn r = some (a, q) ↔ PromotedNext p r a
    ∧ q = { p with round := some { r with
        fastLeft := [], promotedLeft := r.promotedLeft - 1, polled := a :: r.polled } } := by
  rw [promotedNext_iff, Spur.promotedTurn]
  by_cases h0 : r.promotedLeft = 0
  · simp [h0]
  · rw [if_neg h0]
    cases earliest (p.candidates r) with
    | none => simp
    | some e =>
      obtain ⟨m, b⟩ := e
      simp only [Option.some.injEq, Prod.mk.injEq, Nat.pos_of_ne_zero h0, true_and]
      constructor
      · rintro ⟨rfl, rfl⟩
        exact ⟨⟨m, rfl, rfl⟩, rfl⟩
      · rintro ⟨⟨_, -, rfl⟩, rfl⟩
        exact ⟨rfl, rfl⟩

theorem promotedTurn_eq_none_iff : p.promotedTurn r = none ↔ ∀ b, ¬PromotedNext p r b := by
  simp only [Option.eq_none_iff_forall_ne_some, Prod.forall, ne_eq, promotedTurn_eq_some_iff, not_and]
  exact ⟨fun h b hb => h b _ hb rfl, fun h b _ hb => absurd hb (h b)⟩

end Promoted

/-! ### The shared turn (R165) -/

section Shared
variable {p q : Spur} {r : Round} {a : Fin 32}

/-- How far an address lies above the cursor, counting upward and wrapping. -/
def aboveCursor (cursor a : Fin 32) : Nat := (a - cursor - 1).val

theorem mem_afterCursor (c a : Fin 32) : a ∈ afterCursor c :=
  List.mem_map.mpr ⟨a - c - 1, List.mem_finRange _, by grind⟩

theorem sorted_afterCursor (c : Fin 32) :
    (afterCursor c).Pairwise (fun x y => aboveCursor c x < aboveCursor c y) := by
  refine List.pairwise_map.mpr ((List.pairwise_lt_finRange 32).imp fun {i j} hlt => ?_)
  have hback : ∀ k : Fin 32, c + 1 + k - c - 1 = k := fun k => by grind
  rw [aboveCursor, aboveCursor, hback, hback]
  exact hlt

theorem qualifies_iff :
    ((p.head? a).isSome && !(r.fast.contains a && p.activeAt a)) = true ↔ Qualifies p r a := by
  simp only [Qualifies, Spur.head?, Bool.and_eq_true, Bool.not_eq_true', ← Bool.not_eq_true,
    List.contains_iff_mem, activeAt_iff, Classical.not_and_iff_not_or_not]

theorem sharedTurn_eq_some_iff : p.sharedTurn r = some (a, q) ↔ Qualifies p r a
    ∧ (∀ b, Qualifies p r b → a - p.cursor - 1 ≤ b - p.cursor - 1) ∧ q = { p with cursor := a, round := none } := by
  have hfirst : ∀ c, (afterCursor p.cursor).find?
      (fun a => (p.head? a).isSome && !(r.fast.contains a && p.activeAt a)) = some c ↔
        Qualifies p r c ∧ ∀ b, Qualifies p r b → c - p.cursor - 1 ≤ b - p.cursor - 1 := by
    intro c
    rw [find?_eq_some_iff_least (sorted_afterCursor _) (mem_afterCursor _ c), qualifies_iff]
    refine and_congr_right fun _ => forall_congr' fun b => ?_
    simp only [mem_afterCursor, true_imp_iff, ← Bool.not_eq_true, qualifies_iff, aboveCursor, Fin.le_def]
    rw [imp_not_comm, Nat.not_lt]
  unfold Spur.sharedTurn
  cases hf : (afterCursor p.cursor).find?
      (fun a => (p.head? a).isSome && !(r.fast.contains a && p.activeAt a)) with
  | none =>
    refine iff_of_false (by simp) fun ⟨ha, hleast, _⟩ => ?_
    rw [(hfirst a).mpr ⟨ha, hleast⟩] at hf
    exact Option.some_ne_none _ hf
  | some c =>
    simp only [Option.some.injEq, Prod.mk.injEq, ← and_assoc, ← hfirst, hf]
    constructor
    · rintro ⟨rfl, rfl⟩
      exact ⟨rfl, rfl⟩
    · rintro ⟨rfl, rfl⟩
      exact ⟨rfl, rfl⟩

theorem sharedTurn_eq_none_iff : p.sharedTurn r = none ↔ ∀ b, ¬Qualifies p r b := by
  have hnone : (afterCursor p.cursor).find?
      (fun a => (p.head? a).isSome && !(r.fast.contains a && p.activeAt a)) = none ↔ ∀ b, ¬Qualifies p r b := by
    simp only [List.find?_eq_none, mem_afterCursor, true_imp_iff, qualifies_iff]
  unfold Spur.sharedTurn
  rw [← hnone]
  cases (afterCursor p.cursor).find? (fun a => (p.head? a).isSome && !(r.fast.contains a && p.activeAt a)) <;> simp

end Shared

/-! ### The head polled next (R163 to R165) -/

section Choice
variable {p q : Spur} {r : Round} {a : Fin 32}

theorem nextIn_eq_some_iff : p.nextIn r = some (a, q) ↔ Turn p r a q := by
  simp only [Spur.nextIn, Option.or_eq_some_iff, Option.or_eq_none_iff, fastTurn_eq_some_iff, fastTurn_eq_none_iff,
    promotedTurn_eq_some_iff, promotedTurn_eq_none_iff, sharedTurn_eq_some_iff, Turn, or_assoc, and_assoc]

theorem nextIn_eq_none_iff : p.nextIn r = none ↔ ∀ b t, ¬Turn p r b t := by
  simp only [Option.eq_none_iff_forall_ne_some, Prod.forall, ne_eq, nextIn_eq_some_iff]

theorem choose_eq_some_iff : p.choose = some (a, q) ↔ PollsNext p a q := by
  unfold Spur.choose PollsNext
  cases p.round with
  | none => simp [nextIn_eq_some_iff, Spur.freshRound]
  | some r =>
    simp only [Option.or_eq_some_iff, nextIn_eq_some_iff, nextIn_eq_none_iff, Option.some.injEq, exists_eq_left',
      forall_eq', Spur.freshRound]

/-- Every turn is a head's that is enrolled, and leaves the heads, the bit rate and the fast list. -/
theorem enrolled_of_turn (h : Turn p r a q) :
    (p.head? a).isSome = true ∧ q.heads = p.heads ∧ q.rate = p.rate := by
  rcases h with ⟨_, _, _, ⟨x, hx, _⟩, _, rfl⟩ | ⟨_, ⟨_, _, _, ⟨x, hx, _⟩, _⟩, rfl⟩ | ⟨_, _, ⟨hx, _⟩, _, rfl⟩
  · exact ⟨by rw [Spur.head?, hx]; rfl, rfl, rfl⟩
  · exact ⟨by rw [Spur.head?, hx]; rfl, rfl, rfl⟩
  · exact ⟨hx, rfl, rfl⟩

theorem enrolled_of_pollsNext (h : PollsNext p a q) :
    (p.head? a).isSome = true ∧ q.heads = p.heads ∧ q.rate = p.rate := by
  rcases h with ⟨_, _, ht⟩ | ⟨_, ht⟩
  · exact enrolled_of_turn ht
  · exact enrolled_of_turn ht

/-- A fresh round has a turn for any enrolled head: the fast list's active heads take fast slots, the others qualify
for the shared turn. -/
theorem freshRound_turn (h : (p.head? a).isSome = true) : p.nextIn p.freshRound ≠ none := by
  intro hnone
  simp only [Spur.nextIn, Option.or_eq_none_iff, fastTurn_eq_none_iff, sharedTurn_eq_none_iff] at hnone
  obtain ⟨⟨hfast, -⟩, hshared⟩ := hnone
  exact hshared a ⟨h, fun ⟨hmem, hactive⟩ => hfast a hmem hactive⟩

/-- A head is polled next wherever one is enrolled (R165). -/
theorem exists_pollsNext_iff : (∃ a q, PollsNext p a q) ↔ ∃ a, (p.head? a).isSome = true := by
  refine ⟨fun ⟨a, q, h⟩ => ⟨a, (enrolled_of_pollsNext h).1⟩, fun ⟨a, ha⟩ => ?_⟩
  obtain ⟨⟨b, q⟩, hb⟩ : ∃ x, p.choose = some x := by
    refine Option.ne_none_iff_exists'.mp fun hnone => freshRound_turn ha ?_
    unfold Spur.choose at hnone
    split at hnone
    · exact (Option.or_eq_none_iff.mp hnone).2
    · exact hnone
  exact ⟨b, q, choose_eq_some_iff.mp hb⟩

end Choice

/-! ### The poll frame (R184) -/

theorem num16_eq_two (n : Nat) : num16 n = two n := by
  unfold num16 bytes16 two
  congr 1
  · apply BitVec.eq_of_toNat_eq
    simp [Nat.shiftRight_eq_div_pow]
    omega
  · congr 1
    apply BitVec.eq_of_toNat_eq
    simp

theorem bytes16_eq_two (w : BitVec 16) : bytes16 w = two w.toNat := by
  rw [← num16_eq_two, num16, BitVec.ofNat_toNat, BitVec.setWidth_eq]

theorem RedReason.code_eq (r : RedReason) : r.code = reasonNumber r := by cases r <;> rfl

theorem CmdItem.bytes_eq (it : CmdItem) : it.bytes = itemSpelled it := by
  cases it with
  | showAt r x => cases x <;> simp [CmdItem.bytes, Signal.bytes, itemSpelled, num8, num16_eq_two, RedReason.code_eq]
  | actuate d dir => cases dir <;> rfl
  | lamp p => cases p <;> rfl
  | ident | gate => rfl

theorem pollFrame_eq (a : Fin 32) (items : List CmdItem) : pollFrame a items =
    sealed 0x3C ([BitVec.ofNat 8 a.val, BitVec.ofNat 8 (items.flatMap itemSpelled).length] ++
      items.flatMap itemSpelled) := by
  have hitems : items.flatMap CmdItem.bytes = items.flatMap itemSpelled :=
    congrArg items.flatMap (funext CmdItem.bytes_eq)
  simp only [pollFrame, sealed, hitems, bytes16_eq_two, num8]
  rfl

section Exchange
variable {s u : State} {sp : Fin 4} {a : Fin 32} {e : Exchange}

/-! ### The pending-since moment (R164) -/

theorem putHead_of_due {h : Head} (hd : h.due = true) : s.putHead sp a h = withSpur s sp { s.spurs[sp] with
    heads := Table.put a.val { h with pendingSince := some (h.pendingSince.getD s.eventNo) } (s.spurs[sp]).heads } := by
  rw [State.putHead, Head.refresh_of_due _ hd]
  rfl

theorem putHead_of_idle {h : Head} (hd : ¬h.due = true) : s.putHead sp a h = withSpur s sp { s.spurs[sp] with
    heads := Table.put a.val { h with pendingSince := none } (s.spurs[sp]).heads } := by
  rw [State.putHead, Head.refresh_of_idle _ (Bool.eq_false_iff.mpr hd)]
  rfl

/-! ### The next poll (R165, R167) -/

theorem beginPoll_of_next {q : Spur} {h : Head} (hn : PollsNext (s.spurs[sp]) a q) (hh : s.head? sp a = some h) :
    s.beginPoll sp = (withSpur s sp { q with
      exchange := some ⟨a, .sending, (s.spurs[sp]).rate, none, false, [], h.pendingSince⟩,
      txFifo := pollFrame a (load h) }).putHead sp a h.afterPoll := by
  obtain ⟨-, hheads, hrate⟩ := enrolled_of_pollsNext hn
  have hq : q.head? a = some h := by rw [Spur.head?, hheads]; exact hh
  have hchoose : (s.spur sp).choose = some (a, q) := choose_eq_some_iff.mpr hn
  unfold State.beginPoll
  dsimp only
  rw [hchoose]
  dsimp only
  rw [hq]
  dsimp only
  rw [State.modHead_of_some (h := h), hrate, carried_eq_load]
  · rfl
  · rw [State.head?, State.spur_putSpur_self]
    exact hq

theorem beginPoll_of_empty (h : ∀ a, s.head? sp a = none) :
    s.beginPoll sp = withSpur s sp { s.spurs[sp] with round := none, exchange := none } := by
  have hchoose : (s.spur sp).choose = none := by
    refine Option.eq_none_iff_forall_ne_some.mpr fun ⟨a, q⟩ hsome => ?_
    have hin : (s.head? sp a).isSome = true := (enrolled_of_pollsNext (choose_eq_some_iff.mp hsome)).1
    rw [h a] at hin
    exact Bool.false_ne_true hin
  unfold State.beginPoll
  dsimp only
  rw [hchoose]
  rfl

/-! ### The end of an exchange (R156, R162) -/

/-- A change of a spur port that leaves its heads. -/
theorem head?_putSpur {p : Spur} (h : p.heads = (s.spur sp).heads) : (s.putSpur sp p).head? sp a = s.head? sp a := by
  rw [State.head?, State.spur_putSpur_self, h]
  rfl

/-- A spur port with its exchange over. -/
def Spur.freed (p : Spur) : Spur := { p with exchange := none, txFifo := [], rxFifo := [] }

theorem conclude_of_exchange (h : (s.spurs[sp]).exchange = some e) :
    s.conclude sp = (exchanged s sp e.address).beginPoll sp := by
  have hx : (s.spur sp).exchange = some e := h
  have hrepeat : (s.putSpur sp (s.spur sp).freed).repeatIdent sp e.address = exchanged s sp e.address := by
    unfold State.repeatIdent exchanged
    rw [head?_putSpur (p := (s.spur sp).freed) rfl]
    cases s.head? sp e.address with
    | none => rfl
    | some x => simp only [← Bool.not_eq_true, List.contains_iff_mem]; rfl
  unfold State.conclude
  dsimp only
  rw [hx]
  exact congrArg (State.beginPoll · sp) hrepeat

end Exchange

section Missed
variable {s : State} {sp : Fin 4} {a : Fin 32}

/-! ### A miss (R53, R106, R162) -/

theorem mem_headLockers_iff {k : Nat} :
    k ∈ ((List.finRange 8).map (lockerAt sp a)).map Fin.val ↔ k / 8 = sp.val * 32 + a.val := by
  simp only [List.map_map, List.mem_map, List.mem_finRange, true_and, Function.comp_apply, lockerAt]
  constructor
  · rintro ⟨i, rfl⟩
    omega
  · intro h
    exact ⟨⟨k % 8, by omega⟩, by dsimp only; omega⟩

theorem nodup_headLockers : ((List.finRange 8).map (lockerAt sp a)).Nodup := by
  refine List.pairwise_map.mpr ((List.pairwise_lt_finRange 8).imp fun {i j} hlt hij => ?_)
  have hval : sp.val * 256 + a.val * 8 + i.val = sp.val * 256 + a.val * 8 + j.val := congrArg Fin.val hij
  omega

/-- The doors of a LOCK head become UNKNOWN. -/
theorem unseeDoors_lock (hw : Table.wf s.lockers = true) (k : Nat) : s.unseeDoors sp a (.lock k) =
    { s with lockers := s.lockers.map (fun e =>
        (e.1, if e.1 / 8 = sp.val * 32 + a.val then { e.2 with door := .unknown } else e.2)) } := by
  have hfold := foldl_modLocker hw (g := fun l => { l with door := .unknown }) (nodup_headLockers (sp := sp) (a := a))
  simp only [mem_headLockers_iff, List.foldl_map] at hfold
  exact hfold

/-- The state with the doors of a head UNKNOWN. -/
def unseen (s : State) (sp : Fin 4) (a : Fin 32) : Enrolment → State
  | .lock _ => { s with lockers := s.lockers.map (fun e =>
      (e.1, if e.1 / 8 = sp.val * 32 + a.val then { e.2 with door := .unknown } else e.2)) }
  | .cabin n => { s with cabins := s.cabins.map (fun e =>
      (e.1, if e.1 = n.val then { e.2 with door := .unknown } else e.2)) }
  | .kiosk _ => s
  | .exit => s

theorem unseeDoors_eq (hl : Table.wf s.lockers = true) (hc : Table.wf s.cabins = true) (e : Enrolment) :
    s.unseeDoors sp a e = unseen s sp a e := by
  cases e with
  | lock k => exact unseeDoors_lock hl k
  | cabin n => exact modCabin_eq_map hc n _
  | kiosk | exit => rfl

/-- A miss counts against an active head, the third in a row making it SILENT. -/
theorem miss_eq (hw : TablesCanonical s) : s.miss sp a = missed s sp a := by
  obtain ⟨-, hl, hc, -⟩ := hw
  unfold State.miss missed
  cases hh : s.head? sp a with
  | none => rfl
  | some h =>
    have hidle : h.active = false ↔ h.state ≠ .identifying ∧ h.state ≠ .online := by
      rw [Bool.eq_false_iff, ne_eq, Head.active_iff, not_or]
    dsimp only
    simp only [hidle, State.modHead_of_some hh]
    refine ite_congr rfl (fun _ => rfl) fun _ => ite_congr (propext (by omega)) (fun _ => rfl) fun _ => ?_
    exact (unseeDoors_eq (s := noticed (s.putHead sp a { h with state := .silent, misses := 3 }) .headFault (.head sp a)
      (.headState .silent)) hl hc h.enrolment)

end Missed

/-! ### The rows of the exchange (R155, R156) -/

section Rows
variable {s u : State} {sp : Fin 4} {e : Exchange} {bytes : List RxByte}

theorem exec_pollFrameSent (h : (counted s).pollSent sp = u) :
    exec (.pollFrameSent sp) s = .next u.arbitrate := h ▸ rfl

theorem exec_replyTimeout (h : (counted s).expireReply sp = u) :
    exec (.replyTimeout sp) s = .next u.arbitrate := h ▸ rfl

theorem exec_replyCharacterGap (h : (counted s).missExchange sp = u) :
    exec (.replyCharacterGap sp bytes) s = .next u.arbitrate := h ▸ rfl

theorem exec_replyAborted (h : (counted s).missExchange sp = u) :
    exec (.replyAborted sp bytes) s = .next u.arbitrate := h ▸ rfl

theorem exec_spurReply (h : (counted s).judgeReply sp bytes = u) :
    exec (.spurReply sp bytes) s = .next u.arbitrate := h ▸ rfl

/-- A spur's exchange is in a phase. -/
def InPhase (s : State) (sp : Fin 4) (x : ExchangePhase) : Prop := ∃ e, (s.spurs[sp]).exchange = some e ∧ e.phase = x

theorem not_inPhase_of_none (h : (s.spurs[sp]).exchange = none) (x : ExchangePhase) : ¬InPhase s sp x := by
  rintro ⟨e, he, -⟩
  exact Option.some_ne_none e (he.symm.trans h)

theorem not_inPhase_of_ne {x : ExchangePhase} (h : (s.spurs[sp]).exchange = some e) (hx : e.phase ≠ x) :
    ¬InPhase s sp x := by
  rintro ⟨e', he, hp⟩
  obtain rfl := Option.some.inj (h.symm.trans he)
  exact hx hp

theorem pollSent_of_other (h : ¬InPhase s sp .sending) : s.pollSent sp = s := by
  unfold State.pollSent
  dsimp only
  split
  · rfl
  · next e he => exact if_pos fun hp => h ⟨e, he, hp⟩

theorem pollSent_of_sending (h : (s.spurs[sp]).exchange = some e) (hp : e.phase = .sending) :
    s.pollSent sp = withSpur s sp { s.spurs[sp] with
      txFifo := [],
      exchange := some { e with phase := .awaiting, timeoutAt := some (s.now + s.control.replyTimeout) } } := by
  have hx : (s.spur sp).exchange = some e := h
  unfold State.pollSent
  dsimp only
  rw [hx]
  exact if_neg (not_not_intro hp)

theorem missExchange_of_other (h : ¬InPhase s sp .awaiting) : s.missExchange sp = s := by
  unfold State.missExchange
  split
  · rfl
  · next e he => exact if_pos fun hp => h ⟨e, he, hp⟩

/-- An exchange that waits ends in a miss, counted unless the head was removed. -/
theorem missExchange_of_awaiting (hw : TablesCanonical s) (h : (s.spurs[sp]).exchange = some e)
    (hp : e.phase = .awaiting) :
    s.missExchange sp = (if e.removed = true then s else missed s sp e.address).conclude sp := by
  have hx : (s.spur sp).exchange = some e := h
  rw [State.missExchange, hx]
  dsimp only
  rw [if_neg (not_not_intro hp), miss_eq hw]

theorem judgeReply_of_other (h : ¬InPhase s sp .awaiting) : s.judgeReply sp bytes = s := by
  unfold State.judgeReply
  split
  · rfl
  · next e he => exact if_pos fun hp => h ⟨e, he, hp⟩

theorem expireReply_of_stopped (h : (s.spurs[sp]).exchange.bind Exchange.timeoutAt = none) : s.expireReply sp = s := by
  have hx : (s.spur sp).exchange.bind Exchange.timeoutAt = none := h
  rw [State.expireReply, hx]

theorem expireReply_of_running {m : Nat} (h : (s.spurs[sp]).exchange = some e) (hm : e.timeoutAt = some m) :
    s.expireReply sp = (s.passTo m).missExchange sp := by
  have hx : (s.spur sp).exchange = some e := h
  rw [State.expireReply, hx, Option.bind_some, hm]

end Rows

end Sys2Proof.Machine

namespace Sys2Proof.Proofs
open Sys2Proof Sys2Proof.Machine Sys2Proof.Claims

/-- Settles O44: the poll frame's bytes; the rows of an exchange by its phase; its end; the next poll by the turns of the
round; and the pending-since moment. -/
theorem exchangeResult : Obligations.ExchangeResult := by
  refine ⟨pollFrame_eq, fun s sp hw => ?_⟩
  intro p
  have hunenrolled : ∀ a, s.head? sp a ≠ none ↔ (p.head? a).isSome = true := fun a => Option.isSome_iff_ne_none.symm
  refine ⟨fun hx bytes => ?_, fun e hx => ⟨fun hp => ?_, fun hp => ?_, fun hp bytes => ?_, fun hp bytes => ?_,
    fun hp m hm => ?_, fun hm => ?_, conclude_of_exchange hx⟩, fun a q hn h hh => beginPoll_of_next hn hh, ?_,
    fun a q hn => (hunenrolled a).mpr (enrolled_of_pollsNext hn).1, beginPoll_of_empty, fun a h => ?_⟩
  · have hidle := not_inPhase_of_none (s := counted s) hx
    exact ⟨exec_pollFrameSent (pollSent_of_other (hidle _)),
      exec_replyTimeout (expireReply_of_stopped (s := counted s) (congrArg (Option.bind · _) hx)),
      exec_replyCharacterGap (missExchange_of_other (hidle _)), exec_replyAborted (missExchange_of_other (hidle _)),
      exec_spurReply (judgeReply_of_other (hidle _))⟩
  · exact exec_pollFrameSent (pollSent_of_sending (s := counted s) hx hp)
  · exact exec_pollFrameSent (pollSent_of_other (not_inPhase_of_ne (s := counted s) hx hp))
  · have hmiss := missExchange_of_awaiting (s := counted s) hw hx hp
    exact ⟨exec_replyCharacterGap hmiss, exec_replyAborted hmiss⟩
  · have hother := not_inPhase_of_ne (s := counted s) hx hp
    exact ⟨exec_replyCharacterGap (missExchange_of_other hother), exec_replyAborted (missExchange_of_other hother),
      exec_spurReply (judgeReply_of_other hother)⟩
  · exact exec_replyTimeout ((expireReply_of_running (s := counted s) hx hm).trans
      (missExchange_of_awaiting (s := timed s m) hw hx hp))
  · exact exec_replyTimeout (expireReply_of_stopped (s := counted s)
      ((congrArg (Option.bind · _) hx).trans hm))
  · simp only [hunenrolled]
    exact exists_pollsNext_iff
  · intro active due dated
    have hdue : h.due = true ↔ due := Head.due_iff
    exact ⟨fun hd => putHead_of_due (hdue.mpr hd), fun hd => putHead_of_idle (mt hdue.mp hd)⟩

end Sys2Proof.Proofs

/-! ## SPUR_REPLY (09 R156 to R158, R162, R164, R169, R184) -/

namespace Sys2Proof
open Sys2Proof.Machine Sys2Proof.Claims

/-! ### The fields of an item (R184) -/

/-- The code of a door state. -/
def doorNumber : Door → Byte
  | .opened => 0 | .shut => 1 | .unknown => 2

/-- The code of a bolt position. -/
def boltNumber : Bolt → Byte
  | .thrown => 0 | .retracted => 1 | .unknown => 2

/-- The code of a direction. -/
def directionNumber : Direction → Byte
  | .throw => 0 | .retract => 1

/-- The result code of a BOLT item. -/
def outcomeNumber : BoltOutcome → Byte
  | .done => 0 | .failed .thrown => 1 | .failed .retracted => 2 | .failed .unknown => 3

/-- The code of a head type. -/
def headTypeNumber : HeadType → Byte
  | .lock => 0 | .cabin => 1 | .kiosk => 2 | .exit => 3

section Fields
variable {b : Byte}

theorem readDoor_eq_some_iff {d : Door} : readDoor b = some d ↔ b = doorNumber d := by
  constructor
  · intro h
    unfold readDoor at h
    repeat' split at h
    all_goals cases h
    all_goals assumption
  · rintro rfl
    cases d <;> rfl

theorem readBolt_eq_some_iff {p : Bolt} : readBolt b = some p ↔ b = boltNumber p := by
  constructor
  · intro h
    unfold readBolt at h
    repeat' split at h
    all_goals cases h
    all_goals assumption
  · rintro rfl
    cases p <;> rfl

theorem readDirection_eq_some_iff {dir : Direction} : readDirection b = some dir ↔ b = directionNumber dir := by
  constructor
  · intro h
    unfold readDirection at h
    repeat' split at h
    all_goals cases h
    all_goals assumption
  · rintro rfl
    cases dir <;> rfl

theorem readOutcome_eq_some_iff {o : BoltOutcome} : readOutcome b = some o ↔ b = outcomeNumber o := by
  constructor
  · intro h
    unfold readOutcome at h
    repeat' split at h
    all_goals cases h
    all_goals assumption
  · rintro rfl
    cases o with
    | done => rfl
    | failed p => cases p <;> rfl

theorem readHeadType_eq_some_iff {ty : HeadType} : readHeadType b = some ty ↔ b = headTypeNumber ty := by
  constructor
  · intro h
    unfold readHeadType at h
    repeat' split at h
    all_goals cases h
    all_goals assumption
  · rintro rfl
    cases ty <;> rfl

/-- The number in the low four bits of a door byte. -/
def doorByteNumber (p : Door × Bolt) : Nat := (doorNumber p.1).toNat + 4 * (boltNumber p.2).toNat

theorem readDoorByte_eq_some_iff {p : Door × Bolt} : readDoorByte b = some p ↔ b.toNat % 16 = doorByteNumber p := by
  obtain ⟨d, q⟩ := p
  have hfields : readDoorByte b = some (d, q) ↔ 0#6 ++ b.extractLsb' 0 2 = doorNumber d
      ∧ 0#6 ++ b.extractLsb' 2 2 = boltNumber q := by
    rw [← readDoor_eq_some_iff, ← readBolt_eq_some_iff, readDoorByte]
    cases readDoor (0#6 ++ b.extractLsb' 0 2) <;> cases readBolt (0#6 ++ b.extractLsb' 2 2) <;> simp
  have hlow : (0#6 ++ b.extractLsb' 0 2).toNat = b.toNat % 4 := by
    rw [BitVec.toNat_append, BitVec.extractLsb'_toNat]
    simp
  have hhigh : (0#6 ++ b.extractLsb' 2 2).toNat = b.toNat / 4 % 4 := by
    rw [BitVec.toNat_append, BitVec.extractLsb'_toNat]
    simp [Nat.shiftRight_eq_div_pow]
  have hd : (doorNumber d).toNat < 4 := by cases d <;> decide
  have hq : (boltNumber q).toNat < 4 := by cases q <;> decide
  rw [hfields, ← BitVec.toNat_inj, ← BitVec.toNat_inj, hlow, hhigh]
  unfold doorByteNumber
  dsimp only
  omega

theorem readDoorBytes_eq_some_iff {ds : List Byte} {doors : List (Door × Bolt)} :
    readDoorBytes ds = some doors ↔ ds.map (fun b => b.toNat % 16) = doors.map doorByteNumber := by
  induction ds generalizing doors with
  | nil => simp [readDoorBytes, eq_comm]
  | cons b ds ih =>
    have hcons : readDoorBytes (b :: ds) = (readDoorByte b).bind fun d => (readDoorBytes ds).map (d :: ·) := by
      rw [readDoorBytes]
      cases readDoorByte b <;> cases readDoorBytes ds <;> rfl
    cases doors with
    | nil => simp [hcons, Option.bind_eq_some_iff]
    | cons p doors => simp [hcons, Option.bind_eq_some_iff, readDoorByte_eq_some_iff, ih]

end Fields

/-! ### Words of bytes -/

theorem bytes16_append (hi lo : Byte) : bytes16 (hi ++ lo) = [hi, lo] := by
  have hhi : (hi ++ lo).extractLsb' 8 8 = hi := BitVec.extractLsb'_append_eq_left
  have hlo : (hi ++ lo).extractLsb' 0 8 = lo := BitVec.extractLsb'_append_eq_right
  rw [bytes16, hhi, hlo]

/-- A word's bytes spell it, high byte first. -/
theorem bytes16_eq_iff {w : BitVec 16} {hi lo : Byte} : bytes16 w = [hi, lo] ↔ w = hi ++ lo := by
  refine ⟨fun h => ?_, fun h => h ▸ bytes16_append hi lo⟩
  obtain ⟨rfl, rfl⟩ : w.extractLsb' 8 8 = hi ∧ w.extractLsb' 0 8 = lo := by simpa [bytes16] using h
  exact (word16_bytes w).symm

theorem bytes32_word32 (a b c d : Byte) : bytes32 (word32 a b c d) = [a, b, c, d] := by
  have ha : (word32 a b c d).extractLsb' 24 8 = a := by
    rw [word32, BitVec.extractLsb'_append_eq_of_le (by decide), BitVec.extractLsb'_append_eq_of_le (by decide)]
    exact BitVec.extractLsb'_append_eq_left
  have hb : (word32 a b c d).extractLsb' 16 8 = b := by
    rw [word32, BitVec.extractLsb'_append_eq_of_le (by decide), BitVec.extractLsb'_append_eq_of_le (by decide)]
    exact BitVec.extractLsb'_append_eq_right
  have hc : (word32 a b c d).extractLsb' 8 8 = c := by
    rw [word32, BitVec.extractLsb'_append_eq_of_le (by decide)]
    exact BitVec.extractLsb'_append_eq_right
  have hd : (word32 a b c d).extractLsb' 0 8 = d := BitVec.extractLsb'_append_eq_right
  rw [bytes32, ha, hb, hc, hd]

/-! ### One item (R158, R184) -/

section Item
variable {bytes rest : List Byte} {it : ReplyItem}

theorem spellsItem_door {i : Byte} {d : Door} : SpellsItem bytes (.door i d) ↔ bytes = [0x12, i, doorNumber d] := Iff.rfl

theorem spellsItem_bolt {i : Byte} {dir : Direction} {o : BoltOutcome} :
    SpellsItem bytes (.bolt i dir o) ↔ bytes = [0x13, i, directionNumber dir, outcomeNumber o] := Iff.rfl

theorem spellsItem_status {ty : HeadType} {doors : List (Door × Bolt)} : SpellsItem bytes (.status ty doors) ↔
    doors.length ≤ 8 ∧ ∃ ds : List Byte, bytes = 0x14 :: headTypeNumber ty :: BitVec.ofNat 8 doors.length :: ds
      ∧ readDoorBytes ds = some doors := by
  have hcode : (fun p : Door × Bolt => (match p.1 with | .opened => 0 | .shut => 1 | .unknown => 2)
      + 4 * (match p.2 with | .thrown => 0 | .retracted => 1 | .unknown => 2)) = doorByteNumber := by
    funext ⟨d, q⟩
    cases d <;> cases q <;> rfl
  simp only [readDoorBytes_eq_some_iff, ← hcode]
  rfl

theorem readItem_bolt (i dir o : Byte) (rest : List Byte) : readItem (0x13 :: i :: dir :: o :: rest) =
    (readDirection dir).bind fun x => (readOutcome o).map fun y => (.bolt i x y, rest) := by
  cases hx : readDirection dir <;> cases hy : readOutcome o <;> simp [readItem, hx, hy]

/-- A STATUS item reads as many door bytes as it counts. -/
theorem readItem_status (t n : Byte) (rest : List Byte) : readItem (0x14 :: t :: n :: rest) =
    if n.toNat ≤ 8 ∧ n.toNat ≤ rest.length then
      (readHeadType t).bind fun ty => (readDoorBytes (rest.take n.toNat)).map fun ds =>
        (.status ty ds, rest.drop n.toNat)
    else none := by
  cases hx : readHeadType t <;> cases hy : readDoorBytes (rest.take n.toNat) <;> simp [readItem, hx, hy]

/-- As many doors are read as bytes. -/
theorem length_of_readDoorBytes {ds : List Byte} {doors : List (Door × Bolt)} (h : readDoorBytes ds = some doors) :
    ds.length = doors.length := by
  simpa using congrArg List.length (readDoorBytes_eq_some_iff.mp h)

theorem spells_of_readItem (h : readItem bytes = some (it, rest)) : ∃ x, bytes = x ++ rest ∧ SpellsItem x it := by
  unfold readItem at h
  split at h
  · next r a b c d rest' =>
    cases h
    exact ⟨[0x11, r, a, b, c, d], rfl, by rw [SpellsItem, bytes32_word32]⟩
  · next i s rest' =>
    simp only [Option.map_eq_some_iff, Prod.mk.injEq, readDoor_eq_some_iff] at h
    obtain ⟨d, rfl, rfl, rfl⟩ := h
    exact ⟨[0x12, i, doorNumber d], rfl, spellsItem_door.mpr rfl⟩
  · next i dir o rest' =>
    have hbolt : readItem (0x13 :: i :: dir :: o :: rest') = some (it, rest) := by simpa [readItem] using h
    rw [readItem_bolt] at hbolt
    simp only [Option.bind_eq_some_iff, Option.map_eq_some_iff, Prod.mk.injEq, readDirection_eq_some_iff,
      readOutcome_eq_some_iff] at hbolt
    obtain ⟨x, rfl, y, rfl, rfl, rfl⟩ := hbolt
    exact ⟨[0x13, i, directionNumber x, outcomeNumber y], rfl, spellsItem_bolt.mpr rfl⟩
  · next t n rest' =>
    have hstatus : readItem (0x14 :: t :: n :: rest') = some (it, rest) := by simpa [readItem] using h
    rw [readItem_status] at hstatus
    by_cases hn : n.toNat ≤ 8 ∧ n.toNat ≤ rest'.length
    case neg =>
      rw [if_neg hn] at hstatus
      cases hstatus
    rw [if_pos hn] at hstatus
    simp only [Option.bind_eq_some_iff, Option.map_eq_some_iff, Prod.mk.injEq, readHeadType_eq_some_iff] at hstatus
    obtain ⟨hmost, hroom⟩ := hn
    obtain ⟨ty, rfl, doors, hdoors, rfl, rfl⟩ := hstatus
    have hlen : doors.length = n.toNat := by
      rw [← length_of_readDoorBytes hdoors, List.length_take_of_le hroom]
    refine ⟨0x14 :: headTypeNumber ty :: n :: rest'.take n.toNat, ?_,
      spellsItem_status.mpr ⟨by omega, rest'.take n.toNat, ?_, hdoors⟩⟩
    · simp
    · rw [hlen, BitVec.ofNat_toNat, BitVec.setWidth_eq]
  · cases h

theorem readItem_of_spells {x : List Byte} (h : SpellsItem x it) : readItem (x ++ rest) = some (it, rest) := by
  cases it with
  | tap r y =>
    obtain rfl : x = 0x11 :: r :: bytes32 y := h
    simp [readItem, bytes32]
  | door i d =>
    obtain rfl := spellsItem_door.mp h
    simp [readItem, readDoor_eq_some_iff]
  | bolt i dir o =>
    obtain rfl := spellsItem_bolt.mp h
    exact (readItem_bolt ..).trans (by rw [readDirection_eq_some_iff.mpr rfl, readOutcome_eq_some_iff.mpr rfl]; rfl)
  | status ty doors =>
    obtain ⟨hlen, ds, rfl, hds⟩ := spellsItem_status.mp h
    have hn : (BitVec.ofNat 8 doors.length).toNat = ds.length := by
      rw [BitVec.toNat_ofNat, length_of_readDoorBytes hds]
      omega
    have hroom : ds.length ≤ 8 ∧ ds.length ≤ (ds ++ rest).length := by
      rw [length_of_readDoorBytes hds, List.length_append, length_of_readDoorBytes hds]
      omega
    rw [List.cons_append, List.cons_append, List.cons_append, readItem_status, hn, if_pos hroom,
      readHeadType_eq_some_iff.mpr rfl, List.take_left, List.drop_left, hds]
    rfl

theorem readItem_eq_some_iff :
    readItem bytes = some (it, rest) ↔ ∃ x, bytes = x ++ rest ∧ SpellsItem x it :=
  ⟨spells_of_readItem, fun ⟨_, hx, h⟩ => hx ▸ readItem_of_spells h⟩

/-- An item takes a byte at least. -/
theorem spellsItem_ne_nil {x : List Byte} (h : SpellsItem x it) : x ≠ [] := by
  rintro rfl
  cases it with
  | status ty doors =>
    obtain ⟨-, ds, hds, -⟩ := spellsItem_status.mp h
    exact List.cons_ne_nil _ _ hds.symm
  | _ => exact List.cons_ne_nil _ _ (Eq.symm h)

end Item

/-! ### The items of a body (R157, R184) -/

theorem spellsBody_nil_iff {items : List ReplyItem} : SpellsBody items [] ↔ items = [] := by
  cases items with
  | nil => exact iff_of_true rfl rfl
  | cons it items =>
    refine iff_of_false ?_ (List.cons_ne_nil it items)
    rintro ⟨x, y, hxy, hx, -⟩
    exact spellsItem_ne_nil hx (List.append_eq_nil_iff.mp hxy.symm).1

theorem readItems_succ {n : Nat} {bs : List Byte} (h : bs ≠ []) :
    readItems (n + 1) bs = (readItem bs).bind fun x => (readItems n x.2).map (x.1 :: ·) := by
  cases bs with
  | nil => exact absurd rfl h
  | cons b bs =>
    cases hr : readItem (b :: bs) <;> simp [readItems, hr]

/-- As many items as the bound allows are read from the body they spell. -/
theorem readItems_eq_some_iff {n : Nat} {body : List Byte} {items : List ReplyItem} :
    readItems n body = some items ↔ items.length ≤ n ∧ SpellsBody items body := by
  induction n generalizing body items with
  | zero =>
    cases body with
    | nil => simp +contextual [readItems, spellsBody_nil_iff, eq_comm]
    | cons b body =>
      refine iff_of_false (by simp [readItems]) ?_
      rintro ⟨hlen, hspell⟩
      obtain rfl := List.length_eq_zero_iff.mp (Nat.le_zero.mp hlen)
      exact List.cons_ne_nil _ _ hspell
  | succ n ih =>
    cases body with
    | nil => simp +contextual [readItems, spellsBody_nil_iff, eq_comm]
    | cons b body =>
      simp only [readItems_succ (List.cons_ne_nil b body), Option.bind_eq_some_iff, Prod.exists, readItem_eq_some_iff,
        Option.map_eq_some_iff, ih]
      constructor
      · rintro ⟨it, rest, ⟨x, hx, hit⟩, tail, ⟨hlen, htail⟩, rfl⟩
        exact ⟨Nat.succ_le_succ hlen, x, rest, hx, hit, htail⟩
      · rintro ⟨hlen, hspell⟩
        cases items with
        | nil => exact absurd hspell (List.cons_ne_nil b body)
        | cons it tail =>
          obtain ⟨x, rest, hx, hit, htail⟩ := hspell
          exact ⟨it, rest, ⟨x, hx, hit⟩, tail, ⟨Nat.le_of_succ_le_succ hlen, htail⟩, rfl⟩

/-! ### A whole reply (R156, R157) -/

section Reply
variable {polled : Fin 32} {bytes : List RxByte} {more : Bool} {items : List ReplyItem}

theorem RxByte.clear_iff {b : RxByte} : b.clear = true ↔ b.framing = false ∧ b.parity = false ∧ b.overrun = false := by
  simp [RxByte.clear, and_assoc]

/-- What a reply with a whole header is judged by. -/
theorem readReply_of_header {start address flags len : Byte} {rest : List Byte}
    (hb : bytes.map RxByte.value = start :: address :: flags :: len :: rest) :
    readReply polled bytes = some (more, items) ↔
      (start = 0xC3 ∧ len.toNat ≤ 44 ∧ len.toNat + 2 ≤ rest.length
        ∧ (∀ b ∈ bytes.take (len.toNat + 6), b.framing = false ∧ b.parity = false ∧ b.overrun = false)
        ∧ address.toNat = polled.val
        ∧ bytes16 (crc16 (address :: flags :: len :: rest.take len.toNat)) = (rest.drop len.toNat).take 2)
      ∧ more = flags.getLsbD 0 ∧ readItems 4 (rest.take len.toNat) = some items := by
  unfold readReply
  rw [hb]
  simp only [List.all_eq_true, RxByte.clear_iff]
  split
  · next hc =>
    simp only [and_iff_right hc, Option.map_eq_some_iff, Prod.mk.injEq]
    constructor
    · rintro ⟨_, hread, rfl, rfl⟩
      exact ⟨rfl, hread⟩
    · rintro ⟨rfl, hread⟩
      exact ⟨items, hread, rfl, rfl⟩
  · next hc => exact iff_of_false (fun h => Option.some_ne_none _ h.symm) fun ⟨hall, _⟩ => hc hall

/-- Only bytes with a whole header are read. -/
theorem header_of_readReply (h : readReply polled bytes = some (more, items)) :
    ∃ start address flags len rest, bytes.map RxByte.value = start :: address :: flags :: len :: rest := by
  unfold readReply at h
  split at h
  · next start address flags len rest hb => exact ⟨start, address, flags, len, rest, hb⟩
  · cases h

theorem readReply_eq_some_iff : readReply polled bytes = some (more, items) ↔
    ∃ (address flags len hi lo : Byte) (body rest : List Byte),
      bytes.map RxByte.value = [0xC3, address, flags, len] ++ body ++ [hi, lo] ++ rest
      ∧ body.length = len.toNat ∧ body.length ≤ 44 ∧ address.toNat = polled.val
      ∧ crc16 ([address, flags, len] ++ body) = hi ++ lo
      ∧ (∀ b ∈ bytes.take (body.length + 6), b.framing = false ∧ b.parity = false ∧ b.overrun = false)
      ∧ more = flags.getLsbD 0 ∧ items.length ≤ 4 ∧ SpellsBody items body := by
  constructor
  · intro h
    obtain ⟨start, address, flags, len, rest, hb⟩ := header_of_readReply h
    obtain ⟨⟨rfl, hmost, hroom, hclear, haddress, hcrc⟩, rfl, hitems⟩ := (readReply_of_header hb).mp h
    have hlen : (rest.take len.toNat).length = len.toNat := List.length_take_of_le (by omega)
    refine ⟨address, flags, len, _, _, rest.take len.toNat, (rest.drop len.toNat).drop 2, ?_, hlen, ?_, haddress,
      bytes16_eq_iff.mp rfl, ?_, rfl, readItems_eq_some_iff.mp hitems⟩
    · change _ = _ ++ bytes16 (crc16 (address :: flags :: len :: rest.take len.toNat)) ++ _
      rw [hcrc, hb, List.append_assoc, List.take_append_drop, List.append_assoc, List.take_append_drop]
      rfl
    · rwa [hlen]
    · rwa [hlen]
  · rintro ⟨address, flags, len, hi, lo, body, rest, hb, hlen, hmost, haddress, hcrc, hclear, rfl, hitems⟩
    have hheader : bytes.map RxByte.value = 0xC3 :: address :: flags :: len :: (body ++ hi :: lo :: rest) := by
      simpa using hb
    have htake : (body ++ hi :: lo :: rest).take len.toNat = body := List.take_left' hlen
    have hdrop : (body ++ hi :: lo :: rest).drop len.toNat = hi :: lo :: rest := List.drop_left' hlen
    rw [readReply_of_header hheader, htake, hdrop, ← hlen]
    refine ⟨⟨rfl, hmost, ?_, hclear, haddress, bytes16_eq_iff.mpr hcrc⟩, rfl, readItems_eq_some_iff.mpr hitems⟩
    simp only [List.length_append, List.length_cons]
    omega

end Reply

end Sys2Proof

namespace Sys2Proof.Machine
open Sys2Proof.Claims

/-! ### Malformed items (R158) -/

section Malformed
variable {k : Nat} {n : Fin 64} {r : Byte} {x : Serial}

theorem malformed_tap_iff {e : Enrolment} : malformed e (.tap r x) = true ↔ badSerial x ∨
    match e with
    | .lock _ => 7 < r.toNat
    | .cabin _ => 1 < r.toNat
    | .kiosk _ => r ≠ 0
    | .exit => r ≠ 0 := by
  have hzero : r.toNat = 0 ↔ r = 0 := BitVec.toNat_inj (y := 0)
  unfold malformed
  rw [Bool.or_eq_true, Bool.not_eq_true', validSerial_eq_false_iff]
  cases e <;> simp [hzero]

theorem malformed_report_iff {e : Enrolment} {it : ReplyItem}
    (h : (∃ d, it = .door r d) ∨ ∃ dir o, it = .bolt r dir o) : malformed e it = true ↔
      match e with
      | .lock _ => 7 < r.toNat
      | .cabin _ => r ≠ 0
      | .kiosk _ => True
      | .exit => True := by
  have hzero : r.toNat = 0 ↔ r = 0 := BitVec.toNat_inj (y := 0)
  rcases h with ⟨d, rfl⟩ | ⟨dir, o, rfl⟩ <;> cases e <;> simp [malformed, hzero]

end Malformed

/-! ### A reply taken (R158, R162, R164) -/

section Taken
variable {s : State} {sp : Fin 4} {a : Fin 32} {e : Exchange} {h : Head} {more : Bool} {items : List ReplyItem}
  {bytes : List RxByte}

/-- A reply that waits to be judged and cannot be read is a miss. -/
theorem judgeReply_of_unread (hx : (s.spurs[sp]).exchange = some e) (hp : e.phase = .awaiting)
    (hr : readReply e.address bytes = none) : s.judgeReply sp bytes = s.missExchange sp := by
  have hx' : (s.spur sp).exchange = some e := hx
  rw [State.judgeReply, hx']
  dsimp only
  rw [if_neg (not_not_intro hp), hr]

theorem judgeReply_of_read (hx : (s.spurs[sp]).exchange = some e) (hp : e.phase = .awaiting)
    (hr : readReply e.address bytes = some (more, items)) : s.judgeReply sp bytes = s.takeReply sp e more items := by
  have hx' : (s.spur sp).exchange = some e := hx
  rw [State.judgeReply, hx']
  dsimp only
  rw [if_neg (not_not_intro hp), hr]

/-- The reply of a head removed during the exchange is discarded. -/
theorem takeReply_of_gone (hg : e.removed = true ∨ s.head? sp e.address = none) :
    s.takeReply sp e more items = s.conclude sp := by
  unfold State.takeReply
  split
  · next hr hh =>
    rcases hg with hg | hg
    · exact absurd (hr.symm.trans hg) Bool.false_ne_true
    · exact absurd (hh.symm.trans hg) (Option.some_ne_none _)
  · rfl

theorem takeReply_of_mismatched (hr : e.removed = false) (hh : s.head? sp e.address = some h)
    (hs : h.state = .mismatched) : s.takeReply sp e more items = s.conclude sp := by
  rw [State.takeReply, hr, hh]
  exact if_pos hs

/-- The entry of a head after a good reply: the misses cleared, the more flag taken, the moment kept, and a SILENT head
IDENTIFYING again with an IDENT. -/
def Head.answered (h : Head) (more : Bool) (since : Option Nat) : Head :=
  if h.state = .silent
  then Head.place { h with state := .identifying, misses := 0, more := more, pendingSince := since } .ident
  else { h with misses := 0, more := more, pendingSince := since }

theorem goodReply_eq (hs : h.state ≠ .mismatched) (since : Option Nat) : h.goodReply more since =
    h.answered more (if more = true ∧ since ≠ none then since else h.pendingSince) := by
  have hsince : (if more = true then since.or h.pendingSince else h.pendingSince)
      = if more = true ∧ since ≠ none then since else h.pendingSince := by
    cases more <;> cases since <;> simp
  unfold Head.goodReply Head.answered
  rw [hsince]
  cases hstate : h.state with
  | mismatched => exact absurd hstate hs
  | _ => simp

/-- An exchange and an entry of the same spur are written in either order. -/
theorem putSpur_exchange_putHead (x : Head) (e : Exchange) :
    (s.putHead sp a x).putSpur sp { (s.putHead sp a x).spur sp with exchange := some e }
      = (withExchange s sp e).putHead sp a x := by
  have hwith : withExchange s sp e = s.putSpur sp { s.spur sp with exchange := some e } := rfl
  rw [spur_putHead_self, hwith, State.putHead, State.putHead, putSpur_putSpur, putSpur_putSpur, State.spur_putSpur_self]
  rfl

/-- The items of a good reply are held in the exchange, which ends where there are none. -/
theorem holdItems_putHead (hx : (s.spurs[sp]).exchange = some e) (x : Head) (good : List ReplyItem) :
    let u := (withExchange s sp { e with phase := .taking, timeoutAt := none, items := good }).putHead sp a x
    (s.putHead sp a x).holdItems sp good = if good = [] then u.conclude sp else u := by
  intro u
  have hx' : ((s.putHead sp a x).spur sp).exchange = some e := by rw [spur_putHead_self]; exact hx
  have hu : (s.putHead sp a x).putSpur sp { (s.putHead sp a x).spur sp with
      exchange := some { e with phase := .taking, timeoutAt := none, items := good } } = u :=
    putSpur_exchange_putHead x _
  rw [State.holdItems, hx']
  dsimp only
  rw [hu]
  cases good <;> rfl

theorem takeReply_of_good (hx : (s.spurs[sp]).exchange = some e) (hr : e.removed = false)
    (hh : s.head? sp e.address = some h) (hs : h.state ≠ .mismatched) :
    let good := items.filter (fun it => !malformed h.enrolment it)
    let u := (withExchange s sp { e with phase := .taking, timeoutAt := none, items := good }).putHead sp e.address
      (h.answered more (if more = true ∧ e.since ≠ none then e.since else h.pendingSince))
    s.takeReply sp e more items = if good = [] then u.conclude sp else u := by
  intro good u
  rw [State.takeReply, hr, hh]
  dsimp only
  rw [if_neg hs, State.modHead_of_some hh, goodReply_eq hs]
  exact holdItems_putHead hx _ _

end Taken

end Sys2Proof.Machine

namespace Sys2Proof.Proofs
open Sys2Proof Sys2Proof.Machine Sys2Proof.Claims

/-- Settles O45: a reply that is not read, one discarded and a good one; the bytes that are read; the malformed items. -/
theorem spurReplyResult : Obligations.SpurReplyResult := by
  refine ⟨fun s sp e bytes hx hp => ⟨fun hr => ?_, fun more items hr => ⟨fun hg => ?_, fun hk h hh => ⟨fun hs => ?_,
    fun hs => ?_⟩⟩⟩, fun polled bytes more items => readReply_eq_some_iff, fun k n z r x d dir o ty doors => ?_⟩
  · rw [exec_spurReply (judgeReply_of_unread (s := counted s) hx hp hr)]
    exact (exec_replyCharacterGap rfl).symm
  · exact exec_spurReply ((judgeReply_of_read (s := counted s) hx hp hr).trans (takeReply_of_gone hg))
  · exact exec_spurReply ((judgeReply_of_read (s := counted s) hx hp hr).trans (takeReply_of_mismatched hk hh hs))
  · exact exec_spurReply ((judgeReply_of_read (s := counted s) hx hp hr).trans (takeReply_of_good hx hk hh hs))
  · have hdoor : ∀ e, malformed e (.door r d) = true ↔ _ := fun e => malformed_report_iff (.inl ⟨d, rfl⟩)
    have hbolt : ∀ e, malformed e (.bolt r dir o) = true ↔ _ := fun e => malformed_report_iff (.inr ⟨dir, o, rfl⟩)
    refine ⟨malformed_tap_iff, malformed_tap_iff, ?_, ?_, fun e => rfl⟩
    · simp [malformed_tap_iff, hdoor, hbolt]
    · simp [hdoor, hbolt]

end Sys2Proof.Proofs

/-! ## The Trunk Port: what every step keeps (10 R172, R179) -/

namespace Sys2Proof.Machine

/-- The owners of the trunk commands, and what they are built of, leave the reply list and the station. -/
theorem keptOwner_of_replies {Q : List Reply → Fin 16 → Prop} :
    KeptOwner (fun s => Q s.trunk.replies s.trunk.station) where
  time h := h
  alerts h := h
  watches h := h
  write e h := by obtain ⟨-, rfl⟩ := State.write?_eq_some.mp e; exact h
  reserve e h := by obtain ⟨-, rfl⟩ := State.reserve?_eq_some.mp e; exact h
  writeReserve e h := by obtain ⟨-, rfl⟩ := State.writeReserve?_eq_some.mp e; exact h
  convert {s b} h := by obtain ⟨q, e⟩ := s.convert_only b; rw [e]; exact h
  release h := h
  putLocker h := h
  putCabin h := h
  rotors h := h
  classQueues h := h
  tickets h := h
  modBand {s slot f} _ h := by obtain ⟨v, e⟩ := s.modBand_only slot f; rw [e]; exact h
  dropBand h := h
  modHead {s sp a f} _ h := by rw [modHead_trunk]; exact h
  port _ h := h
  transmit h := h
  paused h := h
  dropLocker h := h
  dropCabin h := h
  zones h := h
  cabinClasses h := h
  classes h := h
  tariffs h := h
  schedule h := h
  control h := h
  lines h := h
  issue _ _ _ _ h := h
  rename {s slot _ old new} _ _ _ h := by
    obtain ⟨v, e⟩ := s.modBand_only slot (fun b => { b with serial := new })
    have htrunk : (s.rename slot old new).trunk = s.trunk := by rw [State.rename, e]
    rw [htrunk]
    exact h
  evacuation h := h
  timeSet h := h
  openDay _ _ h := h
  beginClosing _ h := h
  makeHead h := h
  dropHead h := h
  restartPort h := h

/-- The straps name a station of 0 to 14: a strap value of 15 is taken as 14 (R172). -/
theorem stationOf_le (straps : BitVec 4) : (stationOf straps).val ≤ 14 := by
  unfold stationOf
  split
  · exact Nat.le_refl 14
  · next hne =>
    have hlt : straps.toNat < 16 := straps.isLt
    have hne' : straps.toNat ≠ 15 := fun h => hne (BitVec.eq_of_toNat_eq h)
    change straps.toNat ≤ 14
    omega

/-- Each primitive change the model makes keeps the reply list within its four places and the station legal: a reply
joins only where a place is free, a cold reset reads the straps, and no other change adds a reply or moves the
station. -/
theorem kept_replies : Kept (fun s => RepliesBounded s ∧ StationLegal s) where
  toKeptOwner := keptOwner_of_replies (Q := fun l n => l.length ≤ Config.replyPlaces ∧ n.val ≤ 14)
  assembly h := h
  reset {_ straps} _ := ⟨Nat.zero_le _, stationOf_le straps⟩
  dropRecord h := h
  minute h := h
  walkWaits _ h := h
  walkWakes _ h := h
  walkPast _ _ _ _ h := h
  closeDay _ _ h := h
  joinReply {s r} hplace h := by
    obtain ⟨-, hstation⟩ := h
    refine ⟨?_, hstation⟩
    rw [RepliesBounded, State.joinReply_trunk, List.length_append]
    exact hplace
  dropReply {s} h := by
    obtain ⟨hreplies, hstation⟩ := h
    exact ⟨Nat.le_trans (List.drop_sublist 1 s.trunk.replies).length_le hreplies, hstation⟩
  count h := h
  pop h := h

end Sys2Proof.Machine

namespace Sys2Proof.Proofs
open Sys2Proof Sys2Proof.Machine Sys2Proof.Claims

/-- Settles O7: each primitive change keeps the places of the reply list and the station, so every step does. -/
theorem stepKeepsReplies : Obligations.StepKeepsReplies := fun _ _ h e => kept_replies.step h e

end Sys2Proof.Proofs

/-! ## The transmit arbiter, and the frames it begins (08 R144, 10 R179 to R183) -/

namespace Sys2Proof.Machine
open Sys2Proof.Claims

/-! ### The choice (R180, R181) -/

section Choice
variable {s : State} {r : Reply} {rs : List Reply} {x : Record} {xs : List Record}

theorem arbitrate_of_reply (ha : s.trunk.arbiter = .idle) (hr : s.trunk.replies = r :: rs) :
    s.arbitrate = s.beginSegment r 0 := by
  rw [State.arbitrate, ha, hr]

theorem arbitrate_of_record (ha : s.trunk.arbiter = .idle) (hr : s.trunk.replies = []) (hp : s.queue.paused = false)
    (hx : s.queue.records = x :: xs) : s.arbitrate = s.beginRecord x := by
  rw [State.arbitrate, ha, hr, hp, hx]

theorem arbitrate_of_nothing (ha : s.trunk.arbiter = .idle) (hr : s.trunk.replies = [])
    (hn : s.queue.paused = true ∨ s.queue.records = []) : s.arbitrate = s := by
  rw [State.arbitrate, ha, hr]
  rcases hn with hp | hx
  · rw [hp]
  · rw [hx]
    cases s.queue.paused <;> rfl

/-- The arbiter leaves the transmitter idle only with nothing to send. -/
theorem transmitterServed_arbitrate (s : State) : TransmitterServed s.arbitrate := by
  by_cases ha : s.trunk.arbiter = .idle
  case neg =>
    rw [arbitrate_of_sending ha]
    exact fun hidle => absurd hidle ha
  cases hr : s.trunk.replies with
  | cons r rs =>
    obtain ⟨kind, body, -, hbegin⟩ := s.beginSegment_zero r
    rw [arbitrate_of_reply ha hr, hbegin]
    exact fun hidle => Arbiter.noConfusion hidle
  | nil =>
    by_cases hn : s.queue.paused = true ∨ s.queue.records = []
    case pos =>
      rw [arbitrate_of_nothing ha hr hn]
      exact fun _ => ⟨hr, hn⟩
    obtain ⟨hp, hx⟩ := not_or.mp hn
    obtain ⟨x, xs, hx⟩ := List.exists_cons_of_ne_nil hx
    rw [arbitrate_of_record ha hr (Bool.eq_false_iff.mpr hp) hx]
    exact fun hidle => Arbiter.noConfusion hidle

/-- Every command is one event, which the arbiter's choice ends. -/
theorem exec_eq_arbitrate (c : Instr) (s : State) : ∃ u : State, exec c s = .next u.arbitrate := by
  cases c <;> exact ⟨_, rfl⟩

end Choice

/-! ### The frames of replies (R182, R183) -/

theorem upstreamFrame_eq (station : Fin 16) (kind : Byte) (attention : Nat) (body : List Byte) :
    upstreamFrame station kind attention body = sealed 0xA5
      ([BitVec.ofNat 8 station.val, kind, BitVec.ofNat 8 attention, BitVec.ofNat 8 body.length] ++ body) := by
  simp only [upstreamFrame, sealed, bytes16_eq_two, num8]
  rfl

theorem bodies_refused (kind : Byte) (c : RefusalCode) :
    Reply.bodies ⟨kind, .refused c⟩ = [(0xE1, [kind, refusalNumber c])] := by
  cases c <;> rfl

theorem segmentByte_eq (i n : Nat) :
    segmentByte i (i + 1 == n) = BitVec.ofNat 8 (i % 4 + if i + 1 = n then 0x80 else 0) := by
  by_cases h : i + 1 = n
  · rw [segmentByte, if_pos h, beq_iff_eq.mpr h]
    rfl
  · rw [segmentByte, if_neg h, beq_eq_false_iff_ne.mpr h]
    rfl

section Segments
variable {d : ReplyData} {kind : Byte}

theorem bodies_accepted_length : (Reply.bodies ⟨kind, .accepted d⟩).length = d.segments.length := by
  simp [Reply.bodies]

/-- The frames of an accepted reply are its segments in order, each behind the kind and its segment byte. -/
theorem bodies_accepted_index {i : Nat} {data : List Byte} (h : d.segments[i]? = some data) :
    (Reply.bodies ⟨kind, .accepted d⟩)[i]?
      = some (0xE0, [kind, BitVec.ofNat 8 (i % 4 + if i + 1 = d.segments.length then 0x80 else 0)] ++ data) := by
  simp only [Reply.bodies, List.getElem?_map, List.getElem?_zipIdx, h, Option.map_some, Nat.zero_add, segmentByte_eq]

end Segments

/-! ### The frames of records (R144, R183) -/

/-- A field of a word is its number shifted down. -/
theorem extractLsb'_eq_ofNat_div (x : Serial) (k : Nat) : x.extractLsb' k 8 = BitVec.ofNat 8 (x.toNat / 2 ^ k) := by
  rw [← Nat.shiftRight_eq_div_pow]
  rfl

theorem bytes32_eq_four (x : Serial) : bytes32 x = four x := by
  simp only [bytes32, four, two, extractLsb'_eq_ofNat_div, Nat.div_div_eq_div_mul]
  simp

theorem Purpose.code_eq (p : Purpose) : p.code = purposeNumber p := by cases p <;> rfl

theorem doorBytes_eq (d : DoorId) : doorBytes d = doorSpelled d := by
  cases d <;> simp only [doorBytes, doorSpelled, num16_eq_two]

theorem TallyFields.bytes_eq (t : TallyFields) : t.bytes = tallySpelled t := by
  simp only [TallyFields.bytes, tallySpelled, num16_eq_two, num8]
  rfl

section Parts
variable (b : RecordBody)

theorem RecordBody.code_eq : b.code = (recordParts b).kind := by
  cases b with
  | action p => exact p.code_eq
  | _ => rfl

theorem RecordBody.serial_eq : b.serial = (recordParts b).serial := by cases b <;> rfl

theorem RecordBody.requester_eq : b.requester = (recordParts b).requester := by cases b <;> rfl

theorem RecordBody.flags_eq : b.evac = (recordParts b).evac ∧ b.notEntered = (recordParts b).notEntered
    ∧ b.orphaned = (recordParts b).orphaned := by
  cases b <;> exact ⟨rfl, rfl, rfl⟩

theorem RecordBody.fields_eq : b.fields = (recordParts b).fields := by
  cases b <;> simp only [RecordBody.fields, recordParts, num16_eq_two, num8, serialBytes, bytes32_eq_four, doorBytes_eq,
    Purpose.code_eq, TallyFields.bytes_eq, List.append_assoc, List.cons_append, List.nil_append]

end Parts

/-- The value of a flag that is set, 0 for one that is clear. -/
theorem flagValue_eq_mul (b : Bool) (v : Nat) : (if b = true then v else 0) = v * b.toNat := by
  cases b <;> simp

theorem Record.bytes_eq (r : Record) (n : Byte) : r.bytes n = recordSpelled r n := by
  obtain ⟨hevac, hnotEntered, horphaned⟩ := r.body.flags_eq
  simp only [Record.bytes, recordSpelled, RecordBody.flags, RecordBody.code_eq, RecordBody.serial_eq,
    RecordBody.requester_eq, hevac, hnotEntered, horphaned, RecordBody.fields_eq, num16_eq_two, serialBytes,
    bytes32_eq_four, num8, flagValue_eq_mul, Nat.one_mul]
  rfl

end Sys2Proof.Machine

namespace Sys2Proof.Proofs
open Sys2Proof Sys2Proof.Machine Sys2Proof.Claims

/-- Settles O10: every command is an event, and the arbiter ends it. -/
theorem commandServesTransmitter : Obligations.CommandServesTransmitter := by
  intro c s t e
  obtain ⟨u, hu⟩ := exec_eq_arbitrate c s
  rw [hu] at e
  cases e
  exact transmitterServed_arbitrate u

/-- Settles O11: the arbiter's four cases, then the bytes of an upstream frame, of a reply's frames and of a
record's. -/
theorem arbiterChooses : Obligations.ArbiterChooses := by
  refine ⟨fun s => ⟨arbitrate_of_sending, fun ha r rs hr => ?_,
    fun ha hr r rs hp hx => arbitrate_of_record ha hr hp hx, arbitrate_of_nothing⟩, upstreamFrame_eq, bodies_refused,
    fun kind d => ⟨bodies_accepted_length, fun i data h => bodies_accepted_index h⟩, Record.bytes_eq⟩
  rw [arbitrate_of_reply ha hr]
  exact s.beginSegment_zero r

end Sys2Proof.Proofs

/-! ## Bodies read back (10 R175, R182) -/

namespace Sys2Proof

/-! ### The fields of a body -/

section Fields
variable {b : Byte}

theorem bytes16_word16 (hi lo : Byte) : bytes16 (word16 hi lo) = [hi, lo] := bytes16_append hi lo

theorem flagByte_of_readFlag {x : Bool} (h : readFlag b = some x) : flagByte x = [b] := by
  unfold readFlag at h
  repeat' split at h
  all_goals cases h
  all_goals next hb => rw [hb]; rfl

theorem code_of_readMode {m : ZoneMode} (h : readMode b = some m) : m.code = b := by
  unfold readMode at h
  repeat' split at h
  all_goals cases h
  all_goals next hb => rw [hb]; rfl

theorem code_of_readFunction {c : BitVec 3} {f : LineFunction} (h : readFunction c = some f) : f.code = c := by
  unfold readFunction at h
  repeat' split at h
  all_goals cases h
  all_goals next hc => rw [hc]; rfl

theorem append_of_readNibble {x : BitVec 4} (h : readNibble b = some x) : 0#4 ++ x = b := by
  unfold readNibble at h
  split at h
  · next hhigh =>
    cases h
    rw [← hhigh]
    exact BitVec.extractLsb'_append_extractLsb'
  · cases h

theorem append_of_readIntake {x : BitVec 3} (h : readIntake b = some x) : 0#5 ++ x = b := by
  unfold readIntake at h
  split at h
  · next hhigh =>
    cases h
    rw [← hhigh]
    exact BitVec.extractLsb'_append_extractLsb'
  · cases h

/-- A byte is its top bit, its four reserved bits and its low three. -/
theorem append_lineFields (b : Byte) : BitVec.ofBool b.msb ++ b.extractLsb' 3 4 ++ b.extractLsb' 0 3 = b := by
  revert b
  decide

theorem lineByte_of_readLine {l : LineFunction × Bool} (h : readLine b = some l) : lineByte l = b := by
  unfold readLine at h
  split at h
  · next hreserved =>
    obtain ⟨f, hf, rfl⟩ := Option.map_eq_some_iff.mp h
    rw [lineByte, code_of_readFunction hf, ← hreserved]
    exact append_lineFields b
  · cases h

/-- Periods that are read are laid out as the bytes they were read from. -/
theorem laid_of_readPeriods : ∀ {body : List Byte} {ps : List (BitVec 16 × Byte)}, readPeriods body = some ps →
    ps.flatMap (fun p => bytes16 p.1 ++ [p.2]) = body
  | [], _, h => by cases h; rfl
  | [_], _, h => nomatch h
  | [_, _], _, h => nomatch h
  | a :: b :: c :: rest, _, h => by
    obtain ⟨qs, hqs, rfl⟩ := Option.map_eq_some_iff.mp h
    rw [List.flatMap_cons, laid_of_readPeriods hqs, bytes16_word16]
    rfl

end Fields

/-! ### A body that is read (R175) -/

/-- A body of a kind is the one a command is carried in. -/
def BodyCarries (k : FrameKind) (body : List Byte) (c : Command) : Prop := c.kind = k ∧ c.spelled ∧ c.body = body

section Bodies
variable {body : List Byte} {c : Command}

theorem carries_of_readBandIssue (h : readBandIssue body = some c) : BodyCarries .bandIssue body c := by
  unfold readBandIssue at h
  split at h <;> cases h
  all_goals exact ⟨rfl, by simp [Command.spelled], by simp [Command.body, bytes32_word32, bytes16_word16]⟩

theorem carries_of_readBandBar (h : readBandBar body = some c) : BodyCarries .bandBar body c := by
  unfold readBandBar at h
  split at h
  · obtain ⟨on, hon, rfl⟩ := Option.map_eq_some_iff.mp h
    exact ⟨rfl, trivial, by simp only [Command.body, bytes32_word32, flagByte_of_readFlag hon]; rfl⟩
  · cases h

theorem carries_of_readClassLoad (h : readClassLoad body = some c) : BodyCarries .classLoad body c := by
  unfold readClassLoad at h
  split at h
  · split at h <;> cases h
    next hf hm =>
    exact ⟨rfl, trivial, by
      simp only [Command.body, bytes16_word16, append_of_readNibble hf, append_of_readNibble hm]; rfl⟩
  · cases h

theorem carries_of_readScheduleLoad (h : readScheduleLoad body = some c) : BodyCarries .scheduleLoad body c := by
  unfold readScheduleLoad at h
  split at h
  · next hl =>
    obtain ⟨ps, hps, rfl⟩ := Option.map_eq_some_iff.mp h
    have hlaid := laid_of_readPeriods hps
    have hlen : 3 * ps.length = body.length := by rw [← laid_length, hlaid]
    have hfit : ps.length ≤ 20 := by omega
    exact ⟨rfl, hfit, hlaid⟩
  · cases h

theorem carries_of_readZoneLoad (h : readZoneLoad body = some c) : BodyCarries .zoneLoad body c := by
  unfold readZoneLoad at h
  split at h
  · split at h <;> cases h
    next hi hm ha =>
    exact ⟨rfl, trivial, by
      simp only [Command.body, bytes16_word16, append_of_readIntake hi, code_of_readMode hm, flagByte_of_readFlag ha]
      rfl⟩
  · cases h

theorem carries_of_readLockerSet (h : readLockerSet body = some c) : BodyCarries .lockerSet body c := by
  unfold readLockerSet at h
  split at h
  · split at h <;> cases h
    next hz => exact ⟨rfl, hz, by simp only [Command.body, bytes16_word16]; rfl⟩
  · cases h

theorem carries_of_readCabinSet (h : readCabinSet body = some c) : BodyCarries .cabinSet body c := by
  unfold readCabinSet at h
  split at h
  · split at h <;> cases h
    next hk => exact ⟨rfl, hk, rfl⟩
  · cases h

theorem carries_of_readPollPlan (h : readPollPlan body = some c) : BodyCarries .pollPlan body c := by
  unfold readPollPlan at h
  split at h
  · split at h <;> cases h
    next hl => exact ⟨rfl, hl, rfl⟩
  · cases h

theorem carries_of_readRestart (h : readRestart body = some c) : BodyCarries .restart body c := by
  unfold readRestart at h
  split at h
  · obtain ⟨m, hm, rfl⟩ := Option.map_eq_some_iff.mp h
    exact ⟨rfl, trivial, by rw [Command.body, append_of_readNibble hm]⟩
  · cases h

theorem carries_of_readLinesLoad (h : readLinesLoad body = some c) : BodyCarries .linesLoad body c := by
  unfold readLinesLoad at h
  split at h
  · split at h <;> cases h
    next h0 h1 h2 h3 h4 h5 =>
    exact ⟨rfl, trivial, by
      rw [Command.body, lineByte_of_readLine h0, lineByte_of_readLine h1, lineByte_of_readLine h2,
        lineByte_of_readLine h3, lineByte_of_readLine h4, lineByte_of_readLine h5]⟩
  · cases h

/-- A body that is read is the one that carries the command read: the kinds whose fields have a form of their own, then
those whose bytes are taken as they come. -/
theorem carries_of_readBody {k : FrameKind} (h : readBody k body = some c) : BodyCarries k body c := by
  cases k with
  | bandIssue => exact carries_of_readBandIssue h
  | bandBar => exact carries_of_readBandBar h
  | classLoad => exact carries_of_readClassLoad h
  | scheduleLoad => exact carries_of_readScheduleLoad h
  | zoneLoad => exact carries_of_readZoneLoad h
  | lockerSet => exact carries_of_readLockerSet h
  | cabinSet => exact carries_of_readCabinSet h
  | pollPlan => exact carries_of_readPollPlan h
  | restart => exact carries_of_readRestart h
  | linesLoad => exact carries_of_readLinesLoad h
  | _ =>
    simp only [readBody, readBandCredit, readBandVoid, readBandReplace, readBandQuery, readTariffLoad, readControlLoad,
      readLockerQuery, readCabinClassLoad, readCabinQuery, readQueueQuery, readHeadEnrol, readHeadRemove, readWatchSet,
      readWatchClear, readAlertPeek, readAlertClear, readEmpty, readTimeSet] at h
    split at h <;> cases h
    all_goals exact ⟨rfl, trivial, by simp [Command.body, bytes32_word32, bytes16_word16]⟩

end Bodies

/-- A command that is read is of the kind whose body was read. -/
theorem kind_of_readBody {k : FrameKind} {body : List Byte} {c : Command} (h : readBody k body = some c) :
    c.kind = k := by
  obtain ⟨hkind, -⟩ := carries_of_readBody h
  exact hkind

end Sys2Proof

namespace Sys2Proof.Proofs
open Sys2Proof Sys2Proof.Machine Sys2Proof.Claims

/-- Settles O12: the body that carries a command reads as it and fits a frame, and no other body is read. -/
theorem bodiesReadBack : Obligations.BodiesReadBack :=
  ⟨fun _ h => ⟨readBody_body h, body_length_le h⟩, fun _ _ _ h => carries_of_readBody h⟩

end Sys2Proof.Proofs

/-! ## Frames of the trunk: taken, refused, dropped (10 R174 to R178) -/

namespace Sys2Proof.Machine
open Sys2Proof.Claims

section Taken
variable {s u : State} {i : Instr} {kind : Byte} {k : FrameKind} {f : Frame} {c : Command}

/-- An event leaves what it makes of the state counted, and the arbiter's choice. -/
theorem event_eq {act : State → State} (h : act (counted s) = u) : event act s = .next u.arbitrate := h ▸ rfl

/-- A station byte that numbers this station is the byte of its number. -/
theorem station_eq_ofNat (h : f.station.toNat = s.trunk.station.val) :
    f.station = BitVec.ofNat 8 s.trunk.station.val := by
  rw [← h, BitVec.ofNat_toNat, BitVec.setWidth_eq]

/-! ### Frames that are dropped (R174) -/

theorem beq_broadcast_eq_false (hb : f.station ≠ 15) : (f.station == Config.broadcast) = false :=
  beq_eq_false_iff_ne.mpr hb

theorem takes_of_elsewhere (h : f.station.toNat ≠ s.trunk.station.val) (hb : f.station ≠ 15) :
    s.takes f = false := by
  rw [State.takes, beq_broadcast_eq_false hb, beq_eq_false_iff_ne.mpr h]
  exact Bool.and_false _

theorem takes_of_full (hb : f.station ≠ 15) (h : 4 ≤ s.trunk.replies.length) : s.takes f = false := by
  have hfull : decide (s.trunk.replies.length < Config.replyPlaces) = false := decide_eq_false (Nat.not_lt.mpr h)
  rw [State.takes, beq_broadcast_eq_false hb, hfull, Bool.and_false]
  exact Bool.and_false _

/-- A row whose frame is not taken has no effect but that the assembly hunts. -/
theorem exec_dropped (hi : i.framed? = some (kind, f)) (ht : (framed s).takes f = false) :
    exec i s = .next (framed s).arbitrate :=
  (exec_framed hi s).trans (event_eq (State.takeFrame_dropped (s := counted s) ht))

theorem exec_droppedFrame_of_ne {crc : BitVec 16} (h : frameCrc f kind ≠ crc) :
    exec (.droppedFrame kind f crc) s = .next (framed s).arbitrate :=
  event_eq (if_neg h)

theorem exec_droppedFrame_of_eq {crc : BitVec 16} (h : frameCrc f kind = crc) :
    exec (.droppedFrame kind f crc) s = exec (.unknownFrameKind kind f) s :=
  event_eq (if_pos h)

/-! ### Frames wrong in form (R175, R176) -/

/-- A frame wrong in form: its kind is unknown, or its body is not read. -/
theorem unread_iff : (FrameKind.ofCode kind).bind (fun k => readBody k f.body) = none ↔
    ∀ k, FrameKind.ofCode kind = some k → readBody k f.body = none :=
  Option.bind_eq_none_iff

/-- A taken frame wrong in form is answered as refused FORMAT. -/
theorem exec_unread (hi : i.framed? = some (kind, f)) (ht : (framed s).takes f = true)
    (hr : ∀ k, FrameKind.ofCode kind = some k → readBody k f.body = none) :
    exec i s = .next ((framed s).answerFrame kind f (.refused .format)).arbitrate :=
  (exec_framed hi s).trans (event_eq (State.takeFrame_format (s := counted s) ht (unread_iff.mpr hr)))

theorem answerFrame_refused (hb : (f.station == Config.broadcast) = false) (e : RefusalCode) :
    s.answerFrame kind f (.refused e) = replied s kind (.refused e) := by
  unfold State.answerFrame
  rw [hb]
  rfl

/-! ### Broadcasts (R178) -/

theorem beq_broadcast_eq_true (hb : f.station = 15) : (f.station == Config.broadcast) = true := beq_iff_eq.mpr hb

theorem takes_of_broadcast (hb : f.station = 15) (hl : f.body.length ≤ 60) : s.takes f = true := by
  simp [State.takes, Config.broadcast, hb, hl]

/-- A broadcast is never answered. -/
theorem answerFrame_of_broadcast (hb : f.station = 15) (v : Verdict) : s.answerFrame kind f v =
    match v with
    | .accepted t _ => t
    | .refused _ => s := by
  unfold State.answerFrame
  rw [beq_broadcast_eq_true hb]
  cases v <;> rfl

theorem queryOnly_iff : queryOnly k = true ↔
    k ∈ [FrameKind.bandQuery, .lockerQuery, .cabinQuery, .queueQuery, .alertPeek, .statusQuery, .alertFetch] := by
  cases k <;> decide

/-- A broadcast right in form is handed to its owner, unless its kind only produces a reply. -/
theorem exec_broadcast (hi : i.framed? = some (k.code, f)) (hl : f.body.length ≤ 60) (hb : f.station = 15)
    (hc : readBody k f.body = some c) : exec i s = .next (if queryOnly c.kind = true then framed s
      else (framed s).answerFrame k.code f (owner c (framed s))).arbitrate := by
  have htake : State.takeFrame owner k.code f (counted s) = if queryOnly c.kind = true then framed s
      else (framed s).answerFrame k.code f (owner c (framed s)) := by
    rw [State.takeFrame_owned (s := counted s) (takes_of_broadcast hb hl) hc, beq_broadcast_eq_true hb,
      Bool.and_true]
    rfl
  exact (exec_framed hi s).trans (event_eq htake)

end Taken

end Sys2Proof.Machine

namespace Sys2Proof.Proofs
open Sys2Proof Sys2Proof.Machine Sys2Proof.Claims

/-- Settles O15: a wrong CRC, a right one, and a frame that is not taken. -/
theorem framesDropped : Obligations.FramesDropped := by
  refine fun kind f crc s => ⟨fun h => exec_droppedFrame_of_ne h, fun h => exec_droppedFrame_of_eq h,
    fun i hi h => exec_dropped hi ?_⟩
  rcases h with ⟨helse, hb⟩ | ⟨-, hb, hfull⟩
  · exact takes_of_elsewhere helse hb
  · exact takes_of_full hb hfull

/-- Settles O16: the frame is taken, and its reply is FORMAT. -/
theorem formRefused : Obligations.FormRefused := by
  intro i kind f s hi hl ⟨hstation, hplace⟩ hf hr
  obtain ⟨ht, hb⟩ := State.takes_own (s := framed s) hstation hplace (station_eq_ofNat hf) hl
  rw [exec_unread hi ht hr, answerFrame_refused hb]

/-- Settles O17: the station byte is the station's number, so the frame is taken and its owner answers. -/
theorem ownerAnswers : Obligations.OwnerAnswers :=
  fun _ _ _ _ _ hi hl hs hf hc => exec_taken hi hs (station_eq_ofNat hf) hl hc

/-- Settles O18: a broadcast right in form, of a kind that acts or only replies, and one wrong in form. -/
theorem broadcastUnanswered : Obligations.BroadcastUnanswered := by
  refine ⟨fun i k f c s hi hl hb hc => ?_, fun i kind f s hi hl hb hr => ?_⟩
  · rw [exec_broadcast hi hl hb hc, kind_of_readBody hc]
    by_cases hq : queryOnly k = true
    · rw [if_pos hq, if_pos (queryOnly_iff.mp hq)]
    · rw [if_neg hq, if_neg (mt queryOnly_iff.mpr hq)]
      exact congrArg (fun u : State => Host.Outcome.next u.arbitrate) (answerFrame_of_broadcast hb _)
  · refine (exec_unread hi (takes_of_broadcast hb hl) hr).trans ?_
    exact congrArg (fun u : State => Host.Outcome.next u.arbitrate) (answerFrame_of_broadcast hb _)

end Sys2Proof.Proofs

/-! ## Bytes of the trunk: frames assembled and abandoned (10 R173) -/

namespace Sys2Proof.Machine
open Sys2Proof.Claims

/-! ### Bytes that complete no frame -/

/-- Bytes that take the assembly from one state to another and complete no frame on the way. -/
inductive Assembles : Assembly → List TrunkByte → Assembly → Prop where
  | nil (a : Assembly) : Assembles a [] a
  | cons {a b c : Assembly} {x : TrunkByte} {xs : List TrunkByte} (h : a.take x = (b, none)) (t : Assembles b xs c) :
    Assembles a (x :: xs) c

section Runs
variable {a b c : Assembly} {x : TrunkByte} {xs ys : List TrunkByte}

theorem Assembles.append (h : Assembles a xs b) (t : Assembles b ys c) : Assembles a (xs ++ ys) c := by
  induction h with
  | nil => exact t
  | cons hx _ ih => exact .cons hx (ih t)

theorem Assembles.single (h : a.take x = (b, none)) : Assembles a [x] b := .cons h (.nil b)

/-- Bytes that complete no frame change the assembly alone. -/
theorem takeBytes_of_assembles {s : State} (h : Assembles s.trunk.assembly xs b) :
    s.takeBytes xs = s.putAssembly b := by
  generalize ha : s.trunk.assembly = a at h
  induction h generalizing s with
  | nil =>
    subst ha
    rfl
  | @cons _ b' _ x _ hx _ ih =>
    subst ha
    have hbyte : State.takeByte owner s x = s.putAssembly b' := by rw [State.takeByte, hx]
    rw [State.takeBytes, List.foldl_cons, hbyte]
    exact ih rfl

end Runs

/-! ### The header, and the bytes behind it -/

/-- A byte that came without a framing error. -/
def clearByte (b : Byte) : TrunkByte := ⟨b, false⟩

/-- The assembly with a header taken and part of the body and the CRC behind it. -/
def Assembly.unfinished (station kind len : Byte) (part : List Byte) : Assembly :=
  ⟨if part.length < len.toNat then .body else .check, station :: kind :: len :: part⟩

section Frames
variable {a : Assembly} {station kind len b : Byte} {part xs : List Byte}

theorem take_start (h : a.phase = .hunt) : a.take (clearByte 0xA5) = (⟨.header, []⟩, none) := by
  simp [Assembly.take, h, clearByte]

theorem take_of_header (buffer : List Byte) (v : Byte) : Assembly.take ⟨.header, buffer⟩ (clearByte v) =
    if (buffer ++ [v]).length < 3 then (⟨.header, buffer ++ [v]⟩, none)
    else if 60 < ((buffer ++ [v])[2]?.getD 0).toNat then (.hunting, none)
    else if ((buffer ++ [v])[2]?.getD 0).toNat = 0 then (⟨.check, buffer ++ [v]⟩, none)
    else (⟨.body, buffer ++ [v]⟩, none) := rfl

theorem take_of_body (buffer : List Byte) (v : Byte) : Assembly.take ⟨.body, buffer⟩ (clearByte v) =
    if (buffer ++ [v]).length < ((buffer ++ [v])[2]?.getD 0).toNat + 3 then (⟨.body, buffer ++ [v]⟩, none)
    else (⟨.check, buffer ++ [v]⟩, none) := rfl

theorem take_of_check (buffer : List Byte) (v : Byte) : Assembly.take ⟨.check, buffer⟩ (clearByte v) =
    if (buffer ++ [v]).length < ((buffer ++ [v])[2]?.getD 0).toNat + 5 then (⟨.check, buffer ++ [v]⟩, none)
    else (.hunting, completeFrame (buffer ++ [v])) := rfl

/-- The three bytes behind a start byte are stored, and the third is the length of the body. -/
theorem take_header : Assembly.take ⟨.header, [station, kind]⟩ (clearByte len) =
    (if 60 < len.toNat then .hunting else .unfinished station kind len [], none) := by
  rw [take_of_header]
  by_cases h : 60 < len.toNat
  · simp [h]
  · by_cases h0 : len.toNat = 0 <;> simp [h, h0, Assembly.unfinished, Nat.pos_iff_ne_zero]

/-- A start byte and the three bytes of a header, the assembly hunting. -/
theorem assembles_header (h : a.phase = .hunt) : Assembles a ([0xA5, station, kind, len].map clearByte)
    (if 60 < len.toNat then .hunting else .unfinished station kind len []) :=
  .cons (take_start h) (.cons rfl (.cons rfl (.single take_header)))

/-- A byte behind the header is stored, and the last byte of the CRC completes the frame. -/
theorem take_unfinished (h : part.length < len.toNat + 2) :
    Assembly.take (.unfinished station kind len part) (clearByte b) =
      if part.length + 1 < len.toNat + 2 then (.unfinished station kind len (part ++ [b]), none)
      else (.hunting, completeFrame (station :: kind :: len :: (part ++ [b]))) := by
  unfold Assembly.unfinished
  by_cases hbody : part.length < len.toNat
  · rw [if_pos hbody, take_of_body]
    have hmore : part.length + 1 < len.toNat + 2 := by omega
    by_cases hnext : part.length + 1 < len.toNat <;> simp [hnext, hmore]
  · rw [if_neg hbody, take_of_check]
    have hnext : ¬ part.length + 1 < len.toNat := by omega
    by_cases hmore : part.length + 1 < len.toNat + 2 <;> simp [hnext, hmore]

/-- Bytes behind the header that leave the frame unfinished. -/
theorem assembles_unfinished (h : part.length + xs.length < len.toNat + 2) :
    Assembles (.unfinished station kind len part) (xs.map clearByte) (.unfinished station kind len (part ++ xs)) := by
  induction xs generalizing part with
  | nil =>
    rw [List.append_nil]
    exact .nil _
  | cons x xs ih =>
    rw [List.length_cons] at h
    have hx := take_unfinished (station := station) (kind := kind) (b := x) (show part.length < len.toNat + 2 by omega)
    rw [if_pos (by omega)] at hx
    have htail := ih (part := part ++ [x]) (by rw [List.length_append, List.length_singleton]; omega)
    rw [List.append_assoc, List.singleton_append] at htail
    exact .cons hx htail

/-- Part of a frame of a legal length, from its start byte on. -/
theorem assembles_frame (h : a.phase = .hunt) (hl : len.toNat ≤ 60) (hp : part.length < len.toNat + 2) :
    Assembles a (([0xA5, station, kind, len] ++ part).map clearByte) (.unfinished station kind len part) := by
  have hheader := assembles_header (station := station) (kind := kind) (len := len) h
  rw [if_neg (Nat.not_lt.mpr hl)] at hheader
  rw [List.map_append]
  refine hheader.append (assembles_unfinished ?_)
  rw [List.length_nil, Nat.zero_add]
  exact hp

/-- The frame in a full buffer. -/
theorem completeFrame_of_length {body : List Byte} {hi lo : Byte} (h : len.toNat = body.length) :
    completeFrame (station :: kind :: len :: (body ++ [hi, lo])) = some (kind, ⟨station, body⟩, word16 hi lo) := by
  simp only [completeFrame, List.drop_left' h.symm, List.take_left' h.symm]

end Frames

/-! ### Bytes that cannot finish a frame -/

/-- The bytes of a frame an assembly has taken, its start byte counted. -/
def Assembly.taken (a : Assembly) : Nat := if a.phase = .hunt then 0 else a.buffer.length + 1

/-- An assembly that hunts stores nothing. -/
def Assembly.Settled (a : Assembly) : Prop := a.phase = .hunt → a = .hunting

section Short
variable {a : Assembly} {x : TrunkByte} {xs : List TrunkByte}

/-- A framing error abandons what is being assembled. -/
theorem take_framing (hs : a.Settled) (b : Byte) : a.take ⟨b, true⟩ = (.hunting, none) := by
  by_cases h : a.phase = .hunt
  · rw [hs h]
    rfl
  · obtain ⟨phase, buffer⟩ := a
    cases phase with
    | hunt => exact absurd rfl h
    | _ => rfl

theorem settled_of_phase (h : a.phase ≠ .hunt) : a.Settled := fun hh => absurd hh h

theorem settled_hunting : Assembly.hunting.Settled := fun _ => rfl

/-- What a byte behind a start byte gives: it is stored at the end of the buffer, or abandons the frame. -/
def StoredOrAbandoned (buffer : List Byte) (r : Assembly × Option CompleteFrame) : Prop :=
  r = (.hunting, none) ∨ ∃ p, p ≠ .hunt ∧ r = (⟨p, buffer⟩, none)

theorem StoredOrAbandoned.stored {buffer : List Byte} {p : AssemblyPhase} (h : p ≠ .hunt) :
    StoredOrAbandoned buffer (⟨p, buffer⟩, none) := .inr ⟨p, h, rfl⟩

/-- While too few bytes are stored to complete a frame, the next is stored or abandons it. -/
theorem take_stores (hp : a.phase ≠ .hunt) (h : a.buffer.length < 4) (v : Byte) :
    StoredOrAbandoned (a.buffer ++ [v]) (a.take (clearByte v)) := by
  obtain ⟨phase, buffer⟩ := a
  cases phase with
  | hunt => exact absurd rfl hp
  | header =>
    rw [take_of_header]
    split
    · exact .stored (by decide)
    · split
      · exact .inl rfl
      · split <;> exact .stored (by decide)
  | body =>
    rw [take_of_body]
    split <;> exact .stored (by decide)
  | check =>
    have hcheck : (buffer ++ [v]).length < ((buffer ++ [v])[2]?.getD 0).toNat + 5 := by
      rw [List.length_append, List.length_singleton]
      exact Nat.lt_add_left _ (Nat.succ_lt_succ h)
    rw [take_of_check, if_pos hcheck]
    exact .stored (by decide)

/-- Fewer than six bytes complete no frame, and each byte taken counts one at most. -/
theorem take_of_short (hs : a.Settled) (h : a.taken < 5) :
    ∃ b, a.take x = (b, none) ∧ b.Settled ∧ b.taken ≤ a.taken + 1 := by
  obtain ⟨v, framing⟩ := x
  cases framing with
  | true => exact ⟨.hunting, take_framing hs v, settled_hunting, Nat.zero_le _⟩
  | false =>
    by_cases hp : a.phase = .hunt
    · rw [hs hp]
      by_cases hv : v = 0xA5
      · exact ⟨⟨.header, []⟩, if_pos hv, settled_of_phase AssemblyPhase.noConfusion, Nat.le_refl 1⟩
      · exact ⟨.hunting, if_neg hv, settled_hunting, Nat.zero_le _⟩
    · have htaken : a.taken = a.buffer.length + 1 := if_neg hp
      rcases take_stores hp (by omega) v with habandoned | ⟨p, hne, hstored⟩
      · exact ⟨.hunting, habandoned, settled_hunting, Nat.zero_le _⟩
      · have hnext : Assembly.taken ⟨p, a.buffer ++ [v]⟩ = a.buffer.length + 1 + 1 :=
          (if_neg hne).trans (congrArg (· + 1) List.length_append)
        exact ⟨_, hstored, settled_of_phase hne, by omega⟩

theorem assembles_short (hs : a.Settled) (h : a.taken + xs.length ≤ 5) : ∃ b, Assembles a xs b ∧ b.Settled := by
  induction xs generalizing a with
  | nil => exact ⟨a, .nil a, hs⟩
  | cons x xs ih =>
    rw [List.length_cons] at h
    obtain ⟨b, hb, hsettled, htaken⟩ := take_of_short (x := x) hs (by omega)
    obtain ⟨c, hc, hlast⟩ := ih hsettled (by omega)
    exact ⟨c, .cons hb hc, hlast⟩

theorem phase_unfinished_ne (station kind len : Byte) (part : List Byte) :
    (Assembly.unfinished station kind len part).phase ≠ .hunt := by
  unfold Assembly.unfinished
  split <;> exact AssemblyPhase.noConfusion

end Short

/-! ### The rows of the receive assembly (R173) -/

section Rows
variable {s : State} {bytes : List Byte} {tbytes : List TrunkByte} {a : Assembly}

/-- After a gap the assembly hunts. -/
theorem exec_gap_assembly {t : State} (h : exec (.trunkInterByteGap bytes) s = .next t) :
    t.trunk.assembly = .hunting := by
  cases h
  obtain ⟨_, _, _, e⟩ := State.arbitrate_only (((counted s).takeBytes (bytes.map clearByte)).putAssembly .hunting)
  exact congrArg (fun u => u.trunk.assembly) e

/-- A gap behind bytes that complete no frame. -/
theorem exec_gap_of_assembles (h : Assembles s.trunk.assembly (bytes.map clearByte) a) :
    exec (.trunkInterByteGap bytes) s = .next (framed s).arbitrate := by
  have hbytes : (counted s).takeBytes (bytes.map clearByte) = (counted s).putAssembly a := takeBytes_of_assembles h
  exact event_eq (act := fun s => (s.takeBytes (bytes.map clearByte)).putAssembly .hunting)
    (congrArg (State.putAssembly · .hunting) hbytes)

/-- Bytes that abandon a frame. -/
theorem exec_abandoned_of_assembles (h : Assembles s.trunk.assembly tbytes .hunting) :
    exec (.trunkFrameAbandoned tbytes) s = .next (framed s).arbitrate :=
  event_eq (act := (State.takeBytes · tbytes)) (takeBytes_of_assembles (s := counted s) h)

/-! ### A frame completed by its last byte -/

theorem answerFrame_assembly {kind : Byte} {f : Frame} {v : Verdict} (hs : s.trunk.assembly = a)
    (hv : ∀ t d, v = .accepted t d → t.trunk.assembly = a) : (s.answerFrame kind f v).trunk.assembly = a := by
  unfold State.answerFrame
  split
  · next t d _ => exact hv t d rfl
  · next t d _ => exact hv t d rfl
  · exact hs
  · exact hs

/-- A frame, taken or not, leaves the assembly hunting. -/
theorem takeFrame_assembly (kind : Byte) (f : Frame) (s : State) :
    (State.takeFrame owner kind f s).trunk.assembly = .hunting := by
  have hs : (s.putAssembly .hunting).trunk.assembly = .hunting := rfl
  unfold State.takeFrame
  generalize s.putAssembly .hunting = u at hs ⊢
  dsimp only
  split
  · split
    · exact answerFrame_assembly hs (by simp)
    · split
      · exact hs
      · refine answerFrame_assembly hs fun t d e => ?_
        obtain ⟨-, hassembly, -⟩ := owner_trunk e
        exact hassembly.trans hs
  · exact hs

theorem judgeFrame_assembly (c : CompleteFrame) (s : State) :
    (State.judgeFrame owner c s).trunk.assembly = .hunting := by
  unfold State.judgeFrame
  split
  · exact takeFrame_assembly ..
  · rfl

theorem putAssembly_self (h : s.trunk.assembly = a) : s.putAssembly a = s := by
  subst h
  rfl

/-- The byte that completes a frame has it judged, whatever the assembly held, and the arbiter chooses. -/
theorem takeBytes_of_complete {b : Assembly} {x : TrunkByte} {c : CompleteFrame}
    (h : Assembles s.trunk.assembly tbytes a) (hx : a.take x = (b, some c)) :
    s.takeBytes (tbytes ++ [x]) = (State.judgeFrame owner c s).arbitrate := by
  have hbytes : tbytes.foldl (State.takeByte owner) s = s.putAssembly a := takeBytes_of_assembles h
  rw [State.takeBytes, List.foldl_append, hbytes, List.foldl_cons, List.foldl_nil, State.takeByte,
    State.putAssembly_trunk, hx]
  rfl

/-- A gap behind a complete frame changes nothing further: the assembly hunts, and the arbiter has chosen. -/
theorem exec_gap_of_complete {x : Byte} {b : Assembly} {c : CompleteFrame}
    (h : Assembles s.trunk.assembly (bytes.map clearByte) a) (hx : a.take (clearByte x) = (b, some c)) :
    exec (.trunkInterByteGap (bytes ++ [x])) s = .next (State.judgeFrame owner c (counted s)).arbitrate := by
  have hbytes : (counted s).takeBytes ((bytes ++ [x]).map clearByte) =
      (State.judgeFrame owner c (counted s)).arbitrate := by
    rw [List.map_append]
    exact takeBytes_of_complete (s := counted s) h hx
  calc exec (.trunkInterByteGap (bytes ++ [x])) s
      = .next (((counted s).takeBytes ((bytes ++ [x]).map clearByte)).putAssembly .hunting).arbitrate := rfl
    _ = .next ((State.judgeFrame owner c (counted s)).putAssembly .hunting).arbitrate.arbitrate := by
        rw [hbytes, ← State.arbitrate_putAssembly]
    _ = .next (State.judgeFrame owner c (counted s)).arbitrate := by
        rw [State.arbitrate_idem, putAssembly_self (judgeFrame_assembly c (counted s))]

end Rows

end Sys2Proof.Machine

namespace Sys2Proof.Proofs
open Sys2Proof Sys2Proof.Machine Sys2Proof.Claims

/-- Settles O13: all bytes but the last leave the frame unfinished, and the last completes the frame they spell. -/
theorem lineSpellsFrame : Obligations.LineSpellsFrame := by
  intro kind hi lo f s hphase hl
  have hlen : (BitVec.ofNat 8 f.body.length).toNat = f.body.length := by
    rw [BitVec.toNat_ofNat]
    omega
  have hpart : (f.body ++ [hi]).length = f.body.length + 1 := List.length_append
  have hunfinished := assembles_frame (station := f.station) (kind := kind) (part := f.body ++ [hi]) hphase
    (by rw [hlen]; exact hl) (by omega)
  have hlast := take_unfinished (station := f.station) (kind := kind) (len := BitVec.ofNat 8 f.body.length) (b := lo)
    (part := f.body ++ [hi]) (by omega)
  rw [if_neg (by omega), List.append_assoc, List.singleton_append, completeFrame_of_length hlen] at hlast
  have hbytes : [0xA5, f.station, kind, BitVec.ofNat 8 f.body.length] ++ f.body ++ [hi, lo]
      = [0xA5, f.station, kind, BitVec.ofNat 8 f.body.length] ++ (f.body ++ [hi]) ++ [lo] := by simp
  rw [hbytes]
  exact exec_gap_of_complete hunfinished hlast

/-- Settles O14: after a gap the assembly hunts; too few bytes, a length above 60, a framing error behind too few bytes,
and part of a frame with a gap or a framing error behind it. -/
theorem framesAbandoned : Obligations.FramesAbandoned := by
  refine fun s => ⟨fun bytes t h => exec_gap_assembly h, fun hs => ?_⟩
  have hsettled : s.trunk.assembly.Settled := fun _ => hs
  have hphase : s.trunk.assembly.phase = .hunt := congrArg Assembly.phase hs
  have htaken : s.trunk.assembly.taken = 0 := if_pos hphase
  refine ⟨fun bytes hl => ?_, fun st kind len hlen => ?_, fun bytes last hl => ?_,
    fun st kind len last part hlen hpart => ?_⟩
  · obtain ⟨a, ha, -⟩ := assembles_short (xs := bytes.map clearByte) hsettled (by rw [List.length_map]; omega)
    exact exec_gap_of_assembles ha
  · have hheader := assembles_header (station := st) (kind := kind) (len := len) hphase
    rw [if_pos hlen] at hheader
    exact exec_abandoned_of_assembles hheader
  · obtain ⟨a, ha, hlast⟩ := assembles_short (xs := bytes) hsettled (by omega)
    exact exec_abandoned_of_assembles (ha.append (.single (take_framing hlast last)))
  · have hframe := assembles_frame (station := st) (kind := kind) hphase hlen hpart
    have hlast := settled_of_phase (phase_unfinished_ne st kind len part)
    exact ⟨exec_gap_of_assembles hframe,
      exec_abandoned_of_assembles (hframe.append (.single (take_framing hlast last)))⟩

end Sys2Proof.Proofs

/-! ## The close walk (11 R189, R190) -/

namespace Sys2Proof.Machine

/-! ### The first entry of a table from a key on -/

namespace Table
variable {α : Type} {k n : Nat} {x : α} {t : List (Nat × α)}

/-- A listed key with no listed key between a bound and it is the first from the bound on. -/
theorem firstFrom_of_least (hw : wf t = true) (hn : get? n t = some x) (hk : k ≤ n)
    (hl : ∀ j, k ≤ j → j < n → get? j t = none) : firstFrom k t = some (n, x) := by
  cases hf : firstFrom k t with
  | none => exact absurd (firstFrom_none hf (mem_of_get? hn)) (Nat.not_lt.mpr hk)
  | some e =>
    obtain ⟨j, y⟩ := e
    obtain ⟨hm, hkj⟩ := firstFrom_mem hf
    have hy : get? j t = some y := get?_of_mem hw hm
    have hjn : j ≤ n := firstFrom_least hw hf (mem_of_get? hn) hk
    rcases Nat.lt_or_eq_of_le hjn with hlt | rfl
    · simp [hl j hkj hlt] at hy
    · rw [Option.some.inj (hy.symm.trans hn)]

/-- With no key listed from a bound on, there is no first one. -/
theorem firstFrom_of_absent (hw : wf t = true) (h : ∀ j, k ≤ j → get? j t = none) : firstFrom k t = none := by
  cases hf : firstFrom k t with
  | none => rfl
  | some e =>
    obtain ⟨hm, hk⟩ := firstFrom_mem hf
    have hy := get?_of_mem hw hm
    simp [h e.1 hk] at hy

end Table

open Sys2Proof.Claims

/-! ### The walk steps (R189, R190) -/

section Walk
variable {s u : State} {slot : Nat} {b : Band}

theorem exec_closeWalkStep (h : (counted s).walkStep = u) : exec .closeWalkStep s = .next u.arbitrate := h ▸ rfl

theorem exec_closeWalkFinalStep (h : (counted s).finalStep = u) : exec .closeWalkFinalStep s = .next u.arbitrate :=
  h ▸ rfl

theorem walkDue_iff : s.walkDue = true ↔ s.clock.walk = .due := beq_iff_eq

/-- The removal routine leaves the clock (R15, R16). -/
theorem remove_clock (s : State) (slot : Nat) : (s.remove slot).clock = s.clock :=
  (keptCore_of_clock_lines (Q := fun c _ => c = s.clock)).remove rfl

theorem closeBand_of_room (h : s.queue.sum < 128) : s.closeBand slot b =
    { (written s (.close (s.tallyOf b))).remove slot with
      clock := { s.clock with cursor := slot + 1, closes := s.clock.closes + 1 } } := by
  rw [State.closeBand, write?_of_room (Nat.not_le.mpr h)]
  dsimp only
  rw [State.walkPast, remove_clock]
  rfl

theorem closeBand_of_full (h : 128 ≤ s.queue.sum) : s.closeBand slot b = s.setWalk .waiting := by
  rw [State.closeBand, write?_of_full h]

theorem finishWalk_of_room (h : s.queue.sum < 128) : s.finishWalk =
    written { s with clock := { s.clock with day := .closed, cursor := 0, walk := .idle } }
      (.dayClosed s.clock.closes) := by
  rw [State.finishWalk, write?_of_room (Nat.not_le.mpr h)]
  rfl

theorem finishWalk_of_full (h : 128 ≤ s.queue.sum) : s.finishWalk = s.setWalk .waiting := by
  rw [State.finishWalk, write?_of_full h]

theorem walkStep_of_idle (h : s.clock.walk ≠ .due) : s.walkStep = s := if_neg (mt walkDue_iff.mp h)

theorem finalStep_of_idle (h : s.clock.walk ≠ .due) : s.finalStep = s :=
  if_neg fun hd => h (walkDue_iff.mp hd.1)

theorem walkStep_of_band (hd : s.clock.walk = .due) (hf : Table.firstFrom s.clock.cursor s.visit = some (slot, b)) :
    s.walkStep = s.closeBand slot b := by
  rw [State.walkStep, if_pos (walkDue_iff.mpr hd), hf]

theorem finalStep_of_band {e : Nat × Band} (hf : Table.firstFrom s.clock.cursor s.visit = some e) : s.finalStep = s :=
  if_neg fun ⟨_, hn⟩ => Option.some_ne_none e (hf.symm.trans hn)

theorem walkStep_of_end (hd : s.clock.walk = .due) (hf : Table.firstFrom s.clock.cursor s.visit = none) :
    s.walkStep = s.finishWalk := by
  rw [State.walkStep, if_pos (walkDue_iff.mpr hd), hf]

theorem finalStep_of_end (hd : s.clock.walk = .due) (hf : Table.firstFrom s.clock.cursor s.visit = none) :
    s.finalStep = s.finishWalk :=
  if_pos ⟨walkDue_iff.mpr hd, hf⟩

end Walk

end Sys2Proof.Machine

namespace Sys2Proof.Proofs
open Sys2Proof Sys2Proof.Machine Sys2Proof.Claims

/-- Settles O43: the walk not due, a band to walk, and none left, the last two with a place in the Record Queue and
without. -/
theorem closeWalkResult : Obligations.CloseWalkResult := by
  intro s waits ended
  refine ⟨fun hi => ?_, fun hd hw slot b hb hc hl => ?_, fun hd hw hn i hi => ?_⟩
  · exact ⟨exec_closeWalkStep (walkStep_of_idle (s := counted s) hi),
      exec_closeWalkFinalStep (finalStep_of_idle (s := counted s) hi)⟩
  · have hf : Table.firstFrom (counted s).clock.cursor (counted s).visit = some (slot, b) :=
      Table.firstFrom_of_least hw hb hc hl
    have hstep : (counted s).walkStep = (counted s).closeBand slot b := walkStep_of_band hd hf
    exact ⟨exec_closeWalkFinalStep (finalStep_of_band hf),
      fun hroom => exec_closeWalkStep (hstep.trans (closeBand_of_room (s := counted s) hroom)),
      fun hfull => exec_closeWalkStep (hstep.trans (closeBand_of_full (s := counted s) hfull))⟩
  · have hf : Table.firstFrom (counted s).clock.cursor (counted s).visit = none := Table.firstFrom_of_absent hw hn
    have hend {u} (hu : (counted s).finishWalk = u) : exec i s = .next u.arbitrate := by
      simp only [List.mem_cons, List.not_mem_nil, or_false] at hi
      rcases hi with rfl | rfl
      · exact exec_closeWalkStep ((walkStep_of_end (s := counted s) hd hf).trans hu)
      · exact exec_closeWalkFinalStep ((finalStep_of_end (s := counted s) hd hf).trans hu)
    exact ⟨fun hroom => hend (finishWalk_of_room (s := counted s) hroom),
      fun hfull => hend (finishWalk_of_full (s := counted s) hfull)⟩

end Sys2Proof.Proofs

/-! ## The site clock and the day (11 R185 to R188) -/

namespace Sys2Proof.Machine
open Sys2Proof.Claims

/-! ### OPEN_DAY and DAY_CLOSE (R187, R188) -/

section Day
variable {s : State}

theorem openDay_of_open (h : s.clock.day ≠ .closed) : s.openDay = .refused .state := if_pos h

theorem openDay_of_unset (h : s.clock.day = .closed) (hm : s.clock.minuteOfDay = none) :
    s.openDay = .refused .clockUnset := by
  rw [State.openDay, if_neg (not_not_intro h), hm]

theorem openDay_of_set {m : Nat} (h : s.clock.day = .closed) (hm : s.clock.minuteOfDay = some m) :
    s.openDay = .accepted
      { s with clock := { s.clock with day := .opened, siteMinute := 0, minuteDue := s.now + 60000 } } (.opened m) := by
  rw [State.openDay, if_neg (not_not_intro h), hm]

theorem dayClose_of_not_open (h : s.clock.day ≠ .opened) : s.dayClose = .refused .state := if_pos h

theorem dayClose_of_open (h : s.clock.day = .opened) :
    s.dayClose = .accepted s.beginClosing (.closing s.visit.length s.clock.siteMinute) :=
  if_neg (not_not_intro h)

end Day

/-! ### MINUTE_EVENT and TIME_SET (R185, R186) -/

section Minute
variable {s : State} {m : BitVec 16}

/-- The moment of the event is reached, and the clock advances. -/
theorem exec_minuteEvent (s : State) : exec .minuteEvent s = .next (State.arbitrate { counted s with
    now := max s.now s.clock.minuteDue
    clock := { s.clock with
      minuteOfDay := s.clock.minuteOfDay.map (fun m => if 1439 ≤ m then 0 else m + 1)
      siteMinute := if s.clock.day = .closed then s.clock.siteMinute else min (s.clock.siteMinute + 1) 65535
      minuteDue := s.clock.minuteDue + 60000 } }) := rfl

theorem timeSet_range (h : 1439 < m.toNat) : s.timeSet m = .refused .range := if_pos h

theorem timeSet_of_le (h : m.toNat ≤ 1439) : s.timeSet m =
    .accepted { s with clock := { s.clock with minuteOfDay := some m.toNat } } (.time m.toNat s.clock.siteMinute) :=
  if_neg (Nat.not_lt.mpr h)

theorem arbitrate_clock (s : State) : s.arbitrate.clock = s.clock :=
  (keptCore_of_clock_lines (Q := fun c _ => c = s.clock)).arbitrate rfl

end Minute

/-! ### The minute of day stays set (R185, R186) -/

/-- The minute of day is set. -/
def MinuteSet (s : State) : Prop := s.clock.minuteOfDay.isSome = true

/-- The owners of the trunk commands, and what they are built of, never unset the minute of day. -/
theorem keptOwner_minuteSet : KeptOwner MinuteSet where
  toKeptCore := keptCore_of_clock_lines (Q := fun c _ => c.minuteOfDay.isSome = true)
  paused h := h
  dropLocker h := h
  dropCabin h := h
  zones h := h
  cabinClasses h := h
  classes h := h
  tariffs h := h
  schedule h := h
  control h := h
  lines h := h
  issue _ _ _ _ h := h
  rename {s slot _ _ new} _ _ _ h := by
    obtain ⟨v, e⟩ := s.modBand_only slot (fun b => { b with serial := new })
    rw [State.rename, e]
    exact h
  evacuation h := h
  timeSet _ := rfl
  openDay _ _ h := h
  beginClosing _ h := h
  makeHead h := h
  dropHead h := h
  restartPort h := h

namespace KeptCore
variable {P : State → Prop} (k : KeptCore P) {s : State}
include k

/-- A tap keeps what its effect keeps. -/
theorem takeTap {x : Tap} {f : Enrolment → State → State} (hf : ∀ e s, P s → P (f e s)) (h : P s) :
    P (s.takeTap x f) := by
  refine k.takeItem (fun s h => ?_) h
  cases s.tapsFrom x.spur x.address with
  | none => exact h
  | some e =>
    dsimp only
    split
    · exact hf e s h
    · exact h

/-- A report keeps what its effect keeps. -/
theorem takeReport {sp : Fin 4} {a : Fin 32} {it : ReplyItem} {f : Enrolment → State → State}
    (hf : ∀ e s, P s → P (f e s)) (h : P s) : P (s.takeReport sp a it f) := by
  refine k.takeItem (fun s h => ?_) h
  cases s.reportsFrom sp a with
  | none => exact h
  | some e => exact hf e s h

end KeptCore

namespace MinuteSet
variable {s t : State}

theorem answerFrame {kind : Byte} {f : Frame} {v : Verdict} (hv : ∀ t d, v = .accepted t d → MinuteSet t)
    (h : MinuteSet s) : MinuteSet (s.answerFrame kind f v) := by
  unfold State.answerFrame
  split
  · next t d _ => exact hv t d rfl
  · next t d _ => exact hv t d rfl
  · exact h
  · exact h

theorem takeFrame {kind : Byte} {f : Frame} (h : MinuteSet s) : MinuteSet (State.takeFrame owner kind f s) := by
  have hs : MinuteSet (s.putAssembly .hunting) := h
  unfold State.takeFrame
  generalize s.putAssembly .hunting = u at hs ⊢
  dsimp only
  split
  · split
    · exact answerFrame (by simp) hs
    · split
      · exact hs
      · exact answerFrame (fun _ _ e => keptOwner_minuteSet.owner e hs) hs
  · exact hs

theorem judgeFrame {c : CompleteFrame} (h : MinuteSet s) : MinuteSet (State.judgeFrame owner c s) := by
  unfold State.judgeFrame
  split
  · exact takeFrame h
  · exact h

theorem takeBytes {l : List TrunkByte} (h : MinuteSet s) : MinuteSet (s.takeBytes l) := by
  refine keptFoldl (fun s b h => ?_) l h
  unfold State.takeByte
  dsimp only
  split
  · exact keptOwner_minuteSet.arbitrate (judgeFrame h)
  · exact h

theorem minute (h : MinuteSet s) : MinuteSet s.minute := by
  have hset : (s.clock.minuteOfDay.map nextMinuteOfDay).isSome = true := by rwa [Option.isSome_map]
  exact hset

theorem finishWalk (h : MinuteSet s) : MinuteSet s.finishWalk := by
  rcases Nat.lt_or_ge s.queue.sum 128 with hroom | hfull
  · rw [finishWalk_of_room hroom]; exact h
  · rw [finishWalk_of_full hfull]; exact h

theorem closeBand {slot : Nat} {b : Band} (h : MinuteSet s) : MinuteSet (s.closeBand slot b) := by
  rcases Nat.lt_or_ge s.queue.sum 128 with hroom | hfull
  · rw [closeBand_of_room hroom]; exact h
  · rw [closeBand_of_full hfull]; exact h

theorem walkStep (h : MinuteSet s) : MinuteSet s.walkStep := by
  unfold State.walkStep
  split
  · split
    · exact closeBand h
    · exact finishWalk h
  · exact h

theorem finalStep (h : MinuteSet s) : MinuteSet s.finalStep := by
  unfold State.finalStep
  split
  · exact finishWalk h
  · exact h

theorem replySent (h : MinuteSet s) : MinuteSet s.replySent := by
  unfold State.replySent
  split
  · split
    · exact h
    · exact h
  · exact h

theorem recordSent (h : MinuteSet s) : MinuteSet s.recordSent := by
  unfold State.recordSent
  split
  · have hclock := foldl_callStep_clock s.freeTransmitter.dropRecord.deferredCabins s.freeTransmitter.dropRecord
    rw [recordLeft_eq, MinuteSet]
    dsimp only
    rw [hclock]
    exact h
  · exact h

theorem event {act : State → State} (hact : ∀ {u}, MinuteSet u → MinuteSet (act u)) (h : MinuteSet s)
    (e : Machine.event act s = .next t) : MinuteSet t := by
  cases e
  exact keptOwner_minuteSet.arbitrate (hact (u := counted s) h)

/-- No command but a cold reset unsets the minute of day. -/
theorem exec {i : Instr} (hi : ∀ x, i ≠ .coldReset x) (h : MinuteSet s) (e : Machine.exec i s = .next t) :
    MinuteSet t := by
  have k := keptOwner_minuteSet
  cases i with
  | coldReset x => exact absurd rfl (hi x)
  | minuteEvent => exact event minute h e
  | droppedFrame => exact event judgeFrame h e
  | trunkInterByteGap => exact event (act := fun u => (u.takeBytes _).putAssembly .hunting) takeBytes h e
  | trunkFrameAbandoned => exact event takeBytes h e
  | replySent => exact event replySent h e
  | replySegmentSent => exact event k.segmentSent h e
  | recordSent => exact event recordSent h e
  | closeWalkStep => exact event walkStep h e
  | closeWalkFinalStep => exact event finalStep h e
  | pollFrameSent => exact event k.pollSent h e
  | replyTimeout => exact event k.expireReply h e
  | replyCharacterGap => exact event k.missExchange h e
  | replyAborted => exact event k.missExchange h e
  | spurReply => exact event k.judgeReply h e
  | lockerTap =>
    refine event (k.takeTap fun en _ hs => ?_) h e
    cases en with
    | lock => exact k.tapLock hs
    | _ => exact hs
  | kioskTap =>
    refine event (k.takeTap fun en _ hs => ?_) h e
    cases en with
    | kiosk => exact k.tapKiosk hs
    | _ => exact hs
  | outsideReaderTap =>
    refine event (k.takeTap fun en _ hs => ?_) h e
    cases en with
    | cabin => exact k.tapOutside hs
    | _ => exact hs
  | insideReaderTap =>
    refine event (k.takeTap fun en _ hs => ?_) h e
    cases en with
    | cabin => exact k.tapInside hs
    | _ => exact hs
  | exitTap =>
    refine event (k.takeTap fun en _ hs => ?_) h e
    cases en with
    | exit => exact k.tapExit hs
    | _ => exact hs
  | lockerDoorReport =>
    refine event (k.takeReport fun en _ hs => ?_) h e
    cases en with
    | lock => exact k.lockerDoor hs
    | _ => exact hs
  | cabinDoorReport =>
    refine event (k.takeReport fun en _ hs => ?_) h e
    cases en with
    | cabin => exact k.cabinDoor hs
    | _ => exact hs
  | boltResult =>
    refine event (k.takeReport fun en _ hs => ?_) h e
    cases en with
    | lock => exact k.takeResult hs
    | cabin =>
      dsimp only
      split
      · exact k.takeResult hs
      · exact hs
    | _ => exact hs
  | attemptDeadline => exact event k.expireAttempt h e
  | status => exact event (k.takeItem fun _ hs => k.matchStatus hs) h e
  | reserveDeadline => exact event k.lapseReservation h e
  | entryDeadline => exact event k.expireEntry h e
  | warningPoint => exact event k.reachWarning h e
  | occupancyExpiry => exact event k.expireOccupancy h e
  | callDeadline => exact event k.expireCall h e
  | lineChange => exact event k.drivePin h e
  | settleTimer => exact event k.settleLine h e
  | _ => exact event takeFrame h e

end MinuteSet

end Sys2Proof.Machine

namespace Sys2Proof.Proofs
open Sys2Proof Sys2Proof.Machine Sys2Proof.Claims

/-- Settles O38: the two ranges of the operand, the latched set and the next minute of the set clock, and what every
other command leaves. -/
theorem timeSetResult : Obligations.TimeSetResult := by
  refine ⟨fun s m hr => ?_, fun i s t hi e h => MinuteSet.exec hi h e⟩
  have hw : Carries .timeSet (.timeSet m) := fun _ => rfl
  refine ⟨fun h => refuses_of_owner hr hw trivial (timeSet_range h), fun h => ?_⟩
  refine ⟨answers_of_owner hr hw trivial (timeSet_of_le (s := framed s) h), issueSet_of_minute rfl, _,
    exec_minuteEvent _, ?_⟩
  rw [arbitrate_clock]
  have hlast : 1439 ≤ m.toNat ↔ m.toNat = 1439 := by omega
  simp only [Option.map_some, hlast]

/-- Settles O39: the minute event, then the day's state and the clock for OPEN_DAY, and the day's state for
DAY_CLOSE. -/
theorem clockAndDayResult : Obligations.ClockAndDayResult := by
  refine fun s => ⟨exec_minuteEvent s, fun hr => ?_⟩
  have hopen : Carries .openDay .openDay := fun _ => rfl
  have hclose : Carries .dayClose .dayClose := fun _ => rfl
  exact ⟨fun h => refuses_of_owner hr hopen trivial (openDay_of_open (s := framed s) h),
    fun h hm => refuses_of_owner hr hopen trivial (openDay_of_unset (s := framed s) h hm),
    fun h m hm => answers_of_owner hr hopen trivial (openDay_of_set (s := framed s) h hm),
    fun h => refuses_of_owner hr hclose trivial (dayClose_of_not_open (s := framed s) h),
    fun h => answers_of_owner hr hclose trivial (dayClose_of_open (s := framed s) h)⟩

end Sys2Proof.Proofs

/-! ## The step (00): the front command, or an idle millisecond -/

namespace Sys2Proof.Machine

theorem step_of_front {s : State} {c : Instr} {rest : List Instr} (h : s.pending = c :: rest) :
    step s = exec c { s with pending := rest } := by
  rw [step, h]

theorem step_of_empty {s : State} (h : s.pending = []) : step s = .next { s with now := s.now + 1 } := by
  rw [step, h]

end Sys2Proof.Machine

namespace Sys2Proof.Proofs
open Sys2Proof Sys2Proof.Machine

/-- Settles O1: the step's own case of a queue that is not empty. -/
theorem stepRunsFront : Obligations.StepRunsFront := fun _ _ _ h => step_of_front h

end Sys2Proof.Proofs

/-! ## The model's clock (logs 1 and 2): only the passing of time moves it -/

namespace Sys2Proof.Machine

/-! ### Tables, the Record Queue, alerts -/

section Shared
variable (s : State)

@[simp] theorem State.modBand_now (slot : Nat) (f : Band → Band) : (s.modBand slot f).now = s.now := by
  unfold State.modBand; split <;> rfl

@[simp] theorem State.modSerial_now (x : Option Serial) (f : Band → Band) : (s.modSerial x f).now = s.now := by
  unfold State.modSerial
  split
  · rfl
  · split
    · exact s.modBand_now ..
    · rfl

@[simp] theorem State.modLocker_now (n : Fin 1024) (f : Locker → Locker) : (s.modLocker n f).now = s.now := by
  unfold State.modLocker; split <;> rfl

@[simp] theorem State.modCabin_now (n : Fin 64) (f : Cabin → Cabin) : (s.modCabin n f).now = s.now := by
  unfold State.modCabin; split <;> rfl

@[simp] theorem State.modHead_now (sp : Fin 4) (a : Fin 32) (f : Head → Head) : (s.modHead sp a f).now = s.now := by
  unfold State.modHead; split <;> rfl

@[simp] theorem State.convert_now (b : RecordBody) : (s.convert b).now = s.now := by
  unfold State.convert; split <;> rfl

@[simp] theorem State.alert_now (c : AlertClass) (x : AlertSubject) (d : AlertDetail) : (s.alert c x d).now = s.now :=
  rfl

variable {s} {t : State}

theorem State.now_of_write {b : RecordBody} (h : s.write? b = some t) : t.now = s.now := by
  obtain ⟨-, rfl⟩ := State.write?_eq_some.mp h; rfl

theorem State.now_of_reserve (h : s.reserve? = some t) : t.now = s.now := by
  obtain ⟨-, rfl⟩ := State.reserve?_eq_some.mp h; rfl

theorem State.now_of_writeReserve {b : RecordBody} (h : s.writeReserve? b = some t) : t.now = s.now := by
  obtain ⟨-, rfl⟩ := State.writeReserve?_eq_some.mp h; rfl

/-- A fold whose turns leave the clock leaves it. -/
theorem now_foldl {α : Type} {f : State → α → State} (hf : ∀ u a, (f u a).now = u.now) (l : List α) (s : State) :
    (l.foldl f s).now = s.now :=
  keptFoldl (P := fun u => u.now = s.now) (fun u a h => (hf u a).trans h) l rfl

end Shared

/-! ### Command lists and movements (R72 to R79, R166) -/

section Movements
variable (s : State) (d : DoorId)

@[simp] theorem State.place_now (sp : Fin 4) (a : Fin 32) (it : CmdItem) : (s.place sp a it).now = s.now :=
  s.modHead_now ..

@[simp] theorem State.answer_now (sp : Fin 4) (a : Fin 32) (r : Fin 8) (x : Signal) : (s.answer sp a r x).now = s.now :=
  s.place_now ..

@[simp] theorem State.withdraw_now : (s.withdraw d).now = s.now := by
  unfold State.withdraw; split
  · exact s.modHead_now ..
  · rfl

@[simp] theorem State.setAction_now (a : Option Action) : (s.setAction d a).now = s.now := by
  cases d with
  | locker n => exact s.modLocker_now ..
  | cabin n => exact s.modCabin_now ..

@[simp] theorem State.startAttempt_now (a : Action) : (s.startAttempt d a).now = s.now := by
  unfold State.startAttempt; dsimp only; split <;> simp

@[simp] theorem State.handOver_now (dir : Direction) (p : Purpose) (x y : Option Serial) (b : Bool) :
    (s.handOver d dir p x y b).now = s.now := s.startAttempt_now ..

@[simp] theorem State.endAction_now : (s.endAction d).now = s.now := by simp [State.endAction]

@[simp] theorem State.dropAction_now : (s.dropAction d).now = s.now := by unfold State.dropAction; split <;> simp

end Movements

/-! ### Cabins (06) -/

section Cabins
variable (s : State) (n : Fin 64)

@[simp] theorem State.clearCabinLink_now (x : Option Serial) : (s.clearCabinLink x).now = s.now := s.modSerial_now ..

@[simp] theorem State.leaveQueue_now (k : Fin 4) (x : Serial) : (s.leaveQueue k x).now = s.now := rfl

@[simp] theorem State.placeLamp_now : (s.placeLamp n).now = s.now := by unfold State.placeLamp; split <;> simp

@[simp] theorem State.followLamp_now : (s.followLamp n).now = s.now := by
  unfold State.followLamp
  split
  · split <;> simp
  · rfl

@[simp] theorem State.callStep_now : (s.callStep n).now = s.now := by
  unfold State.callStep
  split
  · rfl
  · split
    · rfl
    · split
      · rfl
      · split
        · rfl
        · split
          · rfl
          · next h => simp [State.now_of_reserve h]

@[simp] theorem State.evacuateIdle_now : (s.evacuateIdle n).now = s.now := by simp [State.evacuateIdle]

@[simp] theorem State.freeUp_now : (s.freeUp n).now = s.now := by unfold State.freeUp; dsimp only; split <;> simp

@[simp] theorem State.lapseCall_now : (s.lapseCall n).now = s.now := by
  unfold State.lapseCall
  split
  · rfl
  · split <;> simp

@[simp] theorem State.letIn_now (c : Cabin) (slot : Nat) (b : Band) : (s.letIn n c slot b).now = s.now := by
  simp [State.letIn]

@[simp] theorem State.jamCabin_now (p : Purpose) : (s.jamCabin n p).now = s.now := by simp [State.jamCabin]

@[simp] theorem State.occupy_now (c : Cabin) : (s.occupy n c).now = s.now := by
  unfold State.occupy
  dsimp only
  split
  · next h => simp [State.now_of_reserve h]
  · simp

@[simp] theorem State.completeCabin_now (a : Action) : (s.completeCabin n a).now = s.now := by
  unfold State.completeCabin
  split
  · rfl
  · split <;> simp

@[simp] theorem State.failCabin_now (a : Action) : (s.failCabin n a).now = s.now := by
  unfold State.failCabin
  split
  · rfl
  · split <;> simp

@[simp] theorem State.vacate_now : (s.vacate n).now = s.now := by simp [State.vacate]

@[simp] theorem State.handReset_now : (s.handReset n).now = s.now := s.handOver_now ..

end Cabins

/-! ### Lockers (03) -/

section Lockers
variable (s : State) (n : Fin 1024)

@[simp] theorem State.acquire_now (slot : Nat) (b : Band) : (s.acquire slot b n).now = s.now := by
  unfold State.acquire; split <;> simp

@[simp] theorem State.releaseLocker_now : (s.releaseLocker n).now = s.now := by
  unfold State.releaseLocker; split <;> simp

@[simp] theorem State.enterInspect_now (c : InspectCause) : (s.enterInspect n c).now = s.now := by
  simp [State.enterInspect]

@[simp] theorem State.forcedDoor_now (x : LockerState) : (s.forcedDoor n x).now = s.now := rfl

@[simp] theorem State.chargeClaim_now (l : Locker) : (s.chargeClaim l).now = s.now := s.modSerial_now ..

@[simp] theorem State.settleCompletion_now (l : Locker) (a : Action) : (s.settleCompletion n l a).now = s.now := by
  unfold State.settleCompletion
  split
  · split <;> simp
  · split <;> simp

@[simp] theorem State.completeLocker_now (a : Action) : (s.completeLocker n a).now = s.now := by
  unfold State.completeLocker; split <;> simp

@[simp] theorem State.failLocker_now (a : Action) : (s.failLocker n a).now = s.now := by simp [State.failLocker]

@[simp] theorem State.abandonLocker_now (a : Action) : (s.abandonLocker n a).now = s.now := by
  simp [State.abandonLocker]

end Lockers

/-! ### Results and door reports (04) -/

section Bolts
variable (s : State) (d : DoorId)

@[simp] theorem State.complete_now (a : Action) : (s.complete d a).now = s.now := by cases d <;> simp [State.complete]

@[simp] theorem State.finalFailure_now (a : Action) : (s.finalFailure d a).now = s.now := by
  cases d <;> simp [State.finalFailure]

@[simp] theorem State.failAttempt_now : (s.failAttempt d).now = s.now := by
  unfold State.failAttempt
  split
  · rfl
  · split <;> simp

@[simp] theorem State.setBolt_now (b : Bolt) : (s.setBolt d b).now = s.now := by cases d <;> simp [State.setBolt]

@[simp] theorem State.takeResult_now (dir : Direction) (o : BoltOutcome) : (s.takeResult d dir o).now = s.now := by
  unfold State.takeResult; dsimp only; repeat' split
  all_goals simp

@[simp] theorem State.autoRelock_now (n : Fin 1024) (l : Locker) : (s.autoRelock n l).now = s.now := by
  unfold State.autoRelock
  split
  · split
    · next h => simp [State.now_of_reserve h]
    · rfl
  · rfl

@[simp] theorem State.lockerDoor_now (n : Fin 1024) (x : Door) : (s.lockerDoor n x).now = s.now := by
  unfold State.lockerDoor; dsimp only; repeat' split
  all_goals simp

@[simp] theorem State.cabinDoor_now (n : Fin 64) (x : Door) : (s.cabinDoor n x).now = s.now := by
  unfold State.cabinDoor; dsimp only; repeat' split
  all_goals simp

end Bolts

/-! ### Visits (01) -/

section Visits
variable (s : State) (slot : Nat)

@[simp] theorem State.endQueueLink_now : (s.endQueueLink slot).now = s.now := by
  unfold State.endQueueLink
  split
  · rfl
  · split <;> simp

@[simp] theorem State.endCall_now : (s.endCall slot).now = s.now := by unfold State.endCall; split <;> simp

@[simp] theorem State.bar_now : (s.bar slot).now = s.now := by simp [State.bar]

@[simp] theorem State.strike_now : (s.strike slot).now = s.now := by
  unfold State.strike
  dsimp only
  split
  · rfl
  · split <;> simp

@[simp] theorem State.grant_now : (s.grant slot).now = s.now := s.modBand_now ..

@[simp] theorem State.settleLocker_now (n : Fin 1024) : (s.settleLocker n).now = s.now := by
  unfold State.settleLocker
  split
  · rfl
  · split
    · rfl
    · split <;> simp

@[simp] theorem State.settleCabin_now : (s.settleCabin slot).now = s.now := by unfold State.settleCabin; split <;> simp

@[simp] theorem State.remove_now : (s.remove slot).now = s.now := by
  unfold State.remove
  split
  · rfl
  · simp [now_foldl State.settleLocker_now]

@[simp] theorem State.rename_now (old new : Serial) : (s.rename slot old new).now = s.now := s.modBand_now ..

end Visits

/-! ### Taps (02, 05, 06, 07) -/

section Taps
variable (s : State) (t : Tap)

@[simp] theorem State.answerTap_now (x : Signal) : (s.answerTap t x).now = s.now := s.answer_now ..

@[simp] theorem State.red_now (r : RedReason) : (s.red t r).now = s.now := s.answerTap_now ..

@[simp] theorem State.wait_now : (s.wait t).now = s.now := s.answerTap_now ..

@[simp] theorem State.green_now (slot : Nat) : (s.green t slot).now = s.now := by simp [State.green]

@[simp] theorem State.denyHolder_now (slot : Nat) : (s.denyHolder t slot).now = s.now := by simp [State.denyHolder]

@[simp] theorem State.fireWatches_now (x : Serial) (n : Option (Fin 1024)) (b : Bool) :
    (s.fireWatches x n b).now = s.now := by
  obtain ⟨a, w, h⟩ := s.fireWatches_only x n b
  rw [h]

/-- The state in which the common front ends a tap, or passes it on. -/
def FrontOutcome.state : FrontOutcome → State
  | .ended u => u
  | .passed u _ _ => u

theorem State.front_now (ty : HeadType) (n : Option (Fin 1024)) : (s.front t ty n).state.now = s.now := by
  unfold State.front; dsimp only; repeat' split
  all_goals simp [FrontOutcome.state]

variable {s t} {u : State} {ty : HeadType} {m : Option (Fin 1024)}

theorem State.now_of_ended (h : s.front t ty m = .ended u) : u.now = s.now := by
  simpa [h, FrontOutcome.state] using s.front_now t ty m

theorem State.now_of_passed {slot : Nat} {b : Band} (h : s.front t ty m = .passed u slot b) : u.now = s.now := by
  simpa [h, FrontOutcome.state] using s.front_now t ty m

end Taps

section LockerTaps
variable (s : State) (t : Tap) (n : Fin 1024) (l : Locker) (slot : Nat) (b : Band)

@[simp] theorem State.startAtLocker_now (d : Direction) (p : Purpose) :
    (s.startAtLocker t n l slot b d p).now = s.now := by
  unfold State.startAtLocker
  split
  · simp
  · next h => simp [State.now_of_reserve h]

@[simp] theorem State.tapVacant_now : (s.tapVacant t n l slot b).now = s.now := by
  unfold State.tapVacant
  split
  · simp
  · simp
  · split
    · simp
    · split
      · simp
      · next h => simp [State.now_of_reserve h]

@[simp] theorem State.tapReserved_now : (s.tapReserved t n l slot b).now = s.now := by
  unfold State.tapReserved; repeat' split
  all_goals simp

@[simp] theorem State.tapLocked_now : (s.tapLocked t n l slot b).now = s.now := by
  unfold State.tapLocked; split <;> simp

@[simp] theorem State.giveUp_now : (s.giveUp t n slot b).now = s.now := by
  unfold State.giveUp
  split
  · simp
  · next h => simp [State.now_of_write h]

@[simp] theorem State.tapReleased_now : (s.tapReleased t n l slot b).now = s.now := by
  unfold State.tapReleased; split <;> simp

@[simp] theorem State.tapStaffOnly_now (r : RedReason) : (s.tapStaffOnly t n l slot b r).now = s.now := by
  unfold State.tapStaffOnly; split <;> simp

@[simp] theorem State.decideLocker_now : (s.decideLocker t n l slot b).now = s.now := by
  unfold State.decideLocker
  split
  · simp
  · split <;> simp

theorem State.tapLock_now : (s.tapLock t).now = s.now := by
  unfold State.tapLock
  dsimp only
  split
  · rfl
  · split
    · next h => exact State.now_of_ended h
    · next h => simp [State.now_of_passed h]

end LockerTaps

section KioskTaps
variable (s : State) (t : Tap) (z : Fin 16) (slot : Nat) (b : Band)

@[simp] theorem State.allocate_now (n : Fin 1024) : (s.allocate t z n slot b).now = s.now := by
  unfold State.allocate; dsimp only; split <;> simp

@[simp] theorem State.decideKiosk_now : (s.decideKiosk t z slot b).now = s.now := by
  unfold State.decideKiosk
  dsimp only
  split
  · simp
  · split
    · simp
    · split
      · simp
      · split
        · simp
        · split
          · simp
          · split
            · simp
            · next h => simp [State.now_of_writeReserve h]

theorem State.tapKiosk_now : (s.tapKiosk t z).now = s.now := by
  unfold State.tapKiosk
  split
  · next h => exact State.now_of_ended h
  · next h => simp [State.now_of_passed h]

end KioskTaps

section CabinTaps
variable (s : State) (t : Tap) (n : Fin 64) (c : Cabin) (k : Fin 4) (slot : Nat) (b : Band)

@[simp] theorem State.callAny_now : (s.callAny k).now = s.now := by unfold State.callAny; split <;> simp

@[simp] theorem State.joinQueue_now : (s.joinQueue t k slot b).now = s.now := by simp [State.joinQueue]

@[simp] theorem State.decideQueue_now : (s.decideQueue t k slot b).now = s.now := by
  unfold State.decideQueue; repeat' split
  all_goals simp

@[simp] theorem State.decideOutside_now : (s.decideOutside t n c slot b).now = s.now := by
  unfold State.decideOutside
  split
  · simp
  · split
    · simp
    · split
      · split
        · simp
        · split <;> simp
      · split
        · split
          · next h => simp [State.now_of_reserve h]
          · simp
        · simp

theorem State.tapOutside_now : (s.tapOutside t n).now = s.now := by
  unfold State.tapOutside
  split
  · rfl
  · split
    · next h => exact State.now_of_ended h
    · next h => simp [State.now_of_passed h]

@[simp] theorem State.extend_now : (s.extend t n slot).now = s.now := by simp [State.extend]

@[simp] theorem State.decideInside_now : (s.decideInside t n c slot b).now = s.now := by
  unfold State.decideInside; repeat' split
  all_goals simp

theorem State.tapInside_now : (s.tapInside t n).now = s.now := by
  unfold State.tapInside
  split
  · rfl
  · split
    · next h => exact State.now_of_ended h
    · next h => simp [State.now_of_passed h]

end CabinTaps

section ExitTaps
variable (s : State) (t : Tap) (slot : Nat) (b : Band)

@[simp] theorem State.gate_now : (s.gate t).now = s.now := s.place_now ..

@[simp] theorem State.letOut_now : (s.letOut t slot).now = s.now := by simp [State.letOut]

@[simp] theorem State.sendToPay_now (f : TallyFields) : (s.sendToPay t slot f).now = s.now := by simp [State.sendToPay]

@[simp] theorem State.exitEvacuating_now : (s.exitEvacuating t slot b).now = s.now := by
  unfold State.exitEvacuating
  split
  · next h => simp [State.now_of_write h]
  · simp

@[simp] theorem State.exitNormal_now : (s.exitNormal t slot b).now = s.now := by
  unfold State.exitNormal
  dsimp only
  split
  · simp
  · split
    · simp
    · split
      · split
        · next h => simp [State.now_of_write h]
        · simp
      · split
        · next h => simp [State.now_of_write h]
        · simp

theorem State.tapExit_now : (s.tapExit t).now = s.now := by
  unfold State.tapExit
  split
  · next h => exact State.now_of_ended h
  · next h => split <;> simp [State.now_of_passed h]

end ExitTaps

/-! ### Spur ports (09) -/

section Spurs
variable (s : State) (sp : Fin 4) (a : Fin 32)

@[simp] theorem State.beginPoll_now : (s.beginPoll sp).now = s.now := by
  unfold State.beginPoll
  dsimp only
  split
  · rfl
  · split <;> simp

@[simp] theorem State.repeatIdent_now : (s.repeatIdent sp a).now = s.now := by
  unfold State.repeatIdent
  split
  · split <;> simp
  · rfl

@[simp] theorem State.conclude_now : (s.conclude sp).now = s.now := by
  unfold State.conclude; dsimp only; split <;> simp

@[simp] theorem State.unseeDoors_now (e : Enrolment) : (s.unseeDoors sp a e).now = s.now := by
  cases e with
  | lock c => exact now_foldl (fun u _ => u.modLocker_now ..) _ _
  | cabin n => exact s.modCabin_now ..
  | kiosk z => rfl
  | exit => rfl

@[simp] theorem State.miss_now : (s.miss sp a).now = s.now := by
  unfold State.miss; repeat' split
  all_goals simp

@[simp] theorem State.missExchange_now : (s.missExchange sp).now = s.now := by
  unfold State.missExchange; repeat' split
  all_goals simp

@[simp] theorem State.pollSent_now : (s.pollSent sp).now = s.now := by
  unfold State.pollSent
  dsimp only
  split
  · rfl
  · split <;> rfl

@[simp] theorem State.holdItems_now (l : List ReplyItem) : (s.holdItems sp l).now = s.now := by
  unfold State.holdItems
  dsimp only
  split
  · rfl
  · split <;> simp

@[simp] theorem State.takeReply_now (e : Exchange) (m : Bool) (l : List ReplyItem) :
    (s.takeReply sp e m l).now = s.now := by
  unfold State.takeReply
  split
  · split <;> simp
  · simp

@[simp] theorem State.judgeReply_now (l : List RxByte) : (s.judgeReply sp l).now = s.now := by
  unfold State.judgeReply; repeat' split
  all_goals simp

@[simp] theorem State.popItem_now : (s.popItem sp).now = s.now := by unfold State.popItem; split <;> simp

/-- An item whose effect leaves the clock leaves it. -/
theorem State.takeItem_now (it : ReplyItem) {f : State → State} (hf : ∀ u, (f u).now = u.now) :
    (s.takeItem sp a it f).now = s.now := by
  unfold State.takeItem
  split
  · split <;> simp [hf]
  · exact hf s

theorem State.takeTap_now (t : Tap) {f : Enrolment → State → State} (hf : ∀ e u, (f e u).now = u.now) :
    (s.takeTap t f).now = s.now := by
  refine s.takeItem_now _ _ _ fun u => ?_
  split
  · split
    · exact hf _ u
    · rfl
  · rfl

theorem State.takeReport_now (it : ReplyItem) {f : Enrolment → State → State} (hf : ∀ e u, (f e u).now = u.now) :
    (s.takeReport sp a it f).now = s.now := by
  refine s.takeItem_now _ _ _ fun u => ?_
  split
  · exact hf _ u
  · rfl

end Spurs

/-! ### STATUS (R56, R85, R119, R160) -/

section Status
variable (s : State)

@[simp] theorem State.resolve_now (n : Fin 1024) (l : Locker) (b : Bolt) : (s.resolve n l b).now = s.now := by
  unfold State.resolve; split <;> simp

@[simp] theorem State.resolvedOpen_now (n : Fin 1024) (d : Door) : (s.resolvedOpen n d).now = s.now := by
  unfold State.resolvedOpen; split <;> simp

@[simp] theorem State.lockerStatus_now (n : Fin 1024) (d : Door × Bolt) : (s.lockerStatus n d).now = s.now := by
  unfold State.lockerStatus
  dsimp only
  split
  · rfl
  · split <;> simp

@[simp] theorem State.actOnWait_now (n : Fin 64) (b : Bolt) : (s.actOnWait n b).now = s.now := by
  unfold State.actOnWait; dsimp only; repeat' split
  all_goals simp

@[simp] theorem State.cabinStatus_now (n : Fin 64) (d : Door × Bolt) : (s.cabinStatus n d).now = s.now := by
  simp [State.cabinStatus]

@[simp] theorem State.takeStatus_now (sp : Fin 4) (a : Fin 32) (e : Enrolment) (l : List (Door × Bolt)) :
    (s.takeStatus sp a e l).now = s.now := by
  cases e with
  | lock c =>
    refine now_foldl (fun u i => ?_) _ _
    split
    · exact u.lockerStatus_now ..
    · rfl
  | cabin n => cases l <;> simp [State.takeStatus]
  | kiosk z => rfl
  | exit => rfl

theorem State.matchStatus_now (sp : Fin 4) (a : Fin 32) (ty : HeadType) (l : List (Door × Bolt)) :
    (s.matchStatus sp a ty l).now = s.now := by
  unfold State.matchStatus
  split
  · rfl
  · split <;> simp

end Status

/-! ### Evacuation and lines (R116 to R118, R191, R192) -/

section Lines
variable (s : State)

@[simp] theorem State.evacuateCabin_now (n : Fin 64) : (s.evacuateCabin n).now = s.now := by
  unfold State.evacuateCabin; dsimp only; repeat' split
  all_goals simp

@[simp] theorem State.emptyQueue_now (k : Fin 4) : (s.emptyQueue k).now = s.now :=
  now_foldl (fun u _ => u.modSerial_now ..) _ _

@[simp] theorem State.assertEvacuation_now : s.assertEvacuation.now = s.now := by
  simp [State.assertEvacuation, now_foldl State.emptyQueue_now, now_foldl State.evacuateCabin_now]

@[simp] theorem State.releaseCabin_now (n : Fin 64) : (s.releaseCabin n).now = s.now := by
  unfold State.releaseCabin
  split
  · rfl
  · split <;> simp

@[simp] theorem State.releaseEvacuation_now : s.releaseEvacuation.now = s.now := now_foldl State.releaseCabin_now _ _

@[simp] theorem State.evacuationLet_now : s.evacuationLet.now = s.now := by unfold State.evacuationLet; split <;> simp

@[simp] theorem State.evacuationTaken_now (i : Fin 6) : (s.evacuationTaken i).now = s.now := by
  unfold State.evacuationTaken; dsimp only; split <;> simp

@[simp] theorem State.actOnLine_now (i : Fin 6) (f : LineFunction) (b : Bool) : (s.actOnLine i f b).now = s.now := by
  unfold State.actOnLine; repeat' split
  all_goals simp

@[simp] theorem State.loadLines_now (v : Vector (LineFunction × Bool) 6) : (s.loadLines v).now = s.now := by
  simp [State.loadLines]

end Lines

/-! ### The owners of the trunk commands (R175, R176) -/

/-- Where the verdict is an acceptance, its state stands at the moment `n`. -/
def Verdict.standsAt : Verdict → Nat → Prop
  | .accepted u _, n => u.now = n
  | .refused _, _ => True

section Owners
variable {n : Nat}

@[simp] theorem Verdict.standsAt_accepted (u : State) (d : ReplyData) : (Verdict.accepted u d).standsAt n ↔ u.now = n :=
  Iff.rfl

@[simp] theorem Verdict.standsAt_refused (c : RefusalCode) : (Verdict.refused c).standsAt n := trivial

variable (s : State)

theorem State.bandIssue_standsAt (x : Serial) (c : Byte) (g m : Option (BitVec 16)) :
    (s.bandIssue x c g m).standsAt s.now := by
  unfold State.bandIssue; dsimp only; repeat' split
  all_goals simp

theorem State.bandCredit_standsAt (x : Serial) (m : BitVec 16) : (s.bandCredit x m).standsAt s.now := by
  unfold State.bandCredit; repeat' split
  all_goals simp

theorem State.bandBar_standsAt (x : Serial) (on : Bool) : (s.bandBar x on).standsAt s.now := by
  unfold State.bandBar State.barOn State.barOff; repeat' split
  all_goals simp

theorem State.bandVoid_standsAt (x : Serial) : (s.bandVoid x).standsAt s.now := by
  unfold State.bandVoid; repeat' split
  all_goals simp

theorem State.bandReplace_standsAt (x y : Serial) : (s.bandReplace x y).standsAt s.now := by
  unfold State.bandReplace; repeat' split
  all_goals simp

theorem State.foldl_askStatus_now (l : List (Fin 1024)) : (l.foldl State.askStatus s).now = s.now :=
  now_foldl (fun u _ => u.place_now ..) l s

theorem State.foldl_modLocker_now (f : Locker → Locker) (l : List (Fin 1024)) :
    (l.foldl (fun u n => u.modLocker n f) s).now = s.now :=
  now_foldl (fun u _ => u.modLocker_now ..) l s

theorem State.lockerSet_standsAt (x y : BitVec 16) (a z : Byte) : (s.lockerSet x y a z).standsAt s.now := by
  unfold State.lockerSet State.serviceOut State.serviceIn State.recheck State.moveZone
  dsimp only; repeat' split
  all_goals simp [State.foldl_askStatus_now, State.foldl_modLocker_now]

theorem State.cabinSet_standsAt (x a c : Byte) : (s.cabinSet x a c).standsAt s.now := by
  unfold State.cabinSet State.cabinClose State.cabinReopen State.cabinReclass State.cabinReply; repeat' split
  all_goals simp

@[simp] theorem State.wakeSpur_now (sp : Fin 4) : (s.wakeSpur sp).now = s.now := by
  unfold State.wakeSpur; split <;> simp

@[simp] theorem State.makeHead_now (sp : Fin 4) (a : Fin 32) (e : Enrolment) : (s.makeHead sp a e).now = s.now := by
  have hdoors (u : State) : (u.createDoors sp a e).now = u.now := by
    cases e with
    | lock c => exact now_foldl (fun v i => by split <;> rfl) _ _
    | _ => rfl
  exact (hdoors _).trans (State.place_now ..)

@[simp] theorem State.removeHead_now (sp : Fin 4) (a : Fin 32) (e : Enrolment) : (s.removeHead sp a e).now = s.now := by
  have hmark (u : State) : (u.markRemoved sp a).now = u.now := by
    unfold State.markRemoved; dsimp only; repeat' split
    all_goals rfl
  have hdoors (u : State) : (u.deleteDoors sp a e).now = u.now := by
    cases e with
    | lock c => exact now_foldl (fun v i => v.dropLocker_now (lockerAt sp a i)) _ _
    | _ => rfl
  exact (hdoors _).trans (hmark _)

theorem State.headEnrol_standsAt (p a ty q : Byte) : (s.headEnrol p a ty q).standsAt s.now := by
  unfold State.headEnrol State.enrolAt; repeat' split
  all_goals simp

theorem State.headRemove_standsAt (p a : Byte) : (s.headRemove p a).standsAt s.now := by
  unfold State.headRemove; repeat' split
  all_goals simp

theorem State.pollPlan_standsAt (p r : Byte) (l : List Byte) : (s.pollPlan p r l).standsAt s.now := by
  unfold State.pollPlan; repeat' split
  all_goals simp

theorem State.abandonCabin_now (n : Fin 64) : (s.abandonCabin n).now = s.now := by
  unfold State.abandonCabin
  dsimp only
  split
  · rfl
  · split <;> simp

theorem State.abandonAt_now (n : Fin 1024) : (s.abandonAt n).now = s.now := by
  unfold State.abandonAt; split <;> simp

theorem State.restart_standsAt (m : BitVec 4) : (s.restart m).standsAt s.now :=
  now_foldl (fun u sp => by
    simp [State.restartSpur, now_foldl State.abandonAt_now, now_foldl State.abandonCabin_now]) _ _

/-- No owner's command moves the clock. -/
theorem owner_standsAt (c : Command) : (owner c s).standsAt s.now := by
  cases c with
  | bandIssue => exact s.bandIssue_standsAt ..
  | bandCredit => exact s.bandCredit_standsAt ..
  | bandBar => exact s.bandBar_standsAt ..
  | bandVoid => exact s.bandVoid_standsAt ..
  | bandReplace => exact s.bandReplace_standsAt ..
  | lockerSet => exact s.lockerSet_standsAt ..
  | cabinSet => exact s.cabinSet_standsAt ..
  | headEnrol => exact s.headEnrol_standsAt ..
  | headRemove => exact s.headRemove_standsAt ..
  | pollPlan => exact s.pollPlan_standsAt ..
  | restart => exact s.restart_standsAt ..
  | linesLoad => exact s.loadLines_now _
  | _ =>
    simp only [owner, State.bandQuery, State.classLoad, State.tariffLoad, State.scheduleLoad, State.controlLoad,
      State.zoneLoad, State.lockerQuery, State.lockerQueryZone, State.cabinClassLoad, State.cabinQuery,
      State.queueQuery, State.watchSet, State.watchClear, State.alertFetch, State.alertPeek, State.alertClear,
      State.setPaused, State.timeSet, State.openDay, State.dayClose]
    repeat' split
    all_goals simp

end Owners

/-! ### Frames, the transmitter and the walk (R142, R173 to R180, R189, R190) -/

section Frames
variable (s : State)

@[simp] theorem State.arbitrate_now : s.arbitrate.now = s.now := by
  obtain ⟨a, tx, n, h⟩ := s.arbitrate_only
  rw [h]

theorem State.answerFrame_now {v : Verdict} (hv : v.standsAt s.now) (kind : Byte) (f : Frame) :
    (s.answerFrame kind f v).now = s.now := by
  unfold State.answerFrame
  split
  · exact hv
  · exact hv
  · rfl
  · rfl

theorem State.takeFrame_now (kind : Byte) (f : Frame) : (State.takeFrame owner kind f s).now = s.now := by
  unfold State.takeFrame
  dsimp only
  split
  · split
    · exact State.answerFrame_now _ (Verdict.standsAt_refused _) kind f
    · split
      · rfl
      · exact State.answerFrame_now _ (owner_standsAt _ _) kind f
  · rfl

theorem State.judgeFrame_now (c : CompleteFrame) : (State.judgeFrame owner c s).now = s.now := by
  unfold State.judgeFrame
  split
  · exact s.takeFrame_now ..
  · rfl

theorem State.takeBytes_now (l : List TrunkByte) : (s.takeBytes l).now = s.now := by
  refine now_foldl (fun u b => ?_) l s
  unfold State.takeByte
  dsimp only
  split
  · rw [State.arbitrate_now, State.judgeFrame_now]; rfl
  · rfl

theorem State.segmentSent_now : s.segmentSent.now = s.now := by
  unfold State.segmentSent State.beginSegment; repeat' split
  all_goals rfl

theorem State.replySent_now : s.replySent.now = s.now := by
  unfold State.replySent
  split
  · split <;> rfl
  · rfl

theorem State.recordSent_now : s.recordSent.now = s.now := by
  unfold State.recordSent State.recordLeft State.wakeWalk
  split
  · split <;> exact now_foldl State.callStep_now _ _
  · rfl

@[simp] theorem State.finishWalk_now : s.finishWalk.now = s.now := by
  unfold State.finishWalk
  split
  · next h => exact (State.now_of_write h :)
  · rfl

@[simp] theorem State.closeBand_now (slot : Nat) (b : Band) : (s.closeBand slot b).now = s.now := by
  unfold State.closeBand
  split
  · next h => simp [State.now_of_write h]
  · rfl

theorem State.walkStep_now : s.walkStep.now = s.now := by
  unfold State.walkStep
  split
  · split <;> simp
  · rfl

theorem State.finalStep_now : s.finalStep.now = s.now := by unfold State.finalStep; split <;> simp

end Frames

/-! ### The rows of a timer's expiry: the moment of the timer is reached (log 2) -/

section Timers
variable (s : State)

theorem State.now_le_passTo (m : Nat) : s.now ≤ (s.passTo m).now := Nat.le_max_left ..

theorem State.now_le_minute : s.now ≤ s.minute.now := s.now_le_passTo _

theorem State.now_le_expireReply (sp : Fin 4) : s.now ≤ (s.expireReply sp).now := by
  unfold State.expireReply; split <;> simp

theorem State.now_le_expireAttempt (d : DoorId) : s.now ≤ (s.expireAttempt d).now := by
  unfold State.expireAttempt; split <;> simp

theorem State.now_le_lapseReservation (n : Fin 1024) : s.now ≤ (s.lapseReservation n).now := by
  unfold State.lapseReservation; repeat' split
  all_goals simp

theorem State.now_le_expireEntry (n : Fin 64) : s.now ≤ (s.expireEntry n).now := by
  unfold State.expireEntry; dsimp only; repeat' split
  all_goals simp

theorem State.now_le_reachWarning (n : Fin 64) : s.now ≤ (s.reachWarning n).now := by
  unfold State.reachWarning; repeat' split
  all_goals simp

theorem State.now_le_expireOccupancy (n : Fin 64) : s.now ≤ (s.expireOccupancy n).now := by
  unfold State.expireOccupancy; dsimp only; repeat' split
  all_goals simp

theorem State.now_le_expireCall (n : Fin 64) : s.now ≤ (s.expireCall n).now := by
  unfold State.expireCall; repeat' split
  all_goals simp

theorem State.now_le_settleLine (i : Fin 6) : s.now ≤ (s.settleLine i).now := by
  unfold State.settleLine; dsimp only; split <;> simp

end Timers

/-! ### Every command -/

/-- Every command answers a next state (log 24). -/
theorem exec_answers (c : Instr) (s : State) : ∃ t, exec c s = .next t := by
  cases c <;> exact ⟨_, rfl⟩

theorem now_le_of_event {f : State → State} {s t : State} (hf : ∀ u, u.now ≤ (f u).now) (e : event f s = .next t) :
    s.now ≤ t.now := by
  cases e
  rw [State.arbitrate_now]
  exact hf (Claims.counted s)

theorem now_le_of_event_of_eq {f : State → State} {s t : State} (hf : ∀ u, (f u).now = u.now)
    (e : event f s = .next t) : s.now ≤ t.now := now_le_of_event (fun u => (hf u).ge) e

/-- No command moves the clock back. -/
theorem now_le_of_exec {c : Instr} {s t : State} (e : exec c s = .next t) : s.now ≤ t.now := by
  cases c with
  | coldReset => exact now_le_of_event_of_eq (f := (State.coldReset · _)) (fun _ => rfl) e
  | minuteEvent => exact now_le_of_event State.now_le_minute e
  | droppedFrame => exact now_le_of_event_of_eq (fun u => u.judgeFrame_now _) e
  | trunkInterByteGap =>
    exact now_le_of_event_of_eq (f := fun u => (u.takeBytes _).putAssembly .hunting) (fun u => u.takeBytes_now _) e
  | trunkFrameAbandoned => exact now_le_of_event_of_eq (fun u => u.takeBytes_now _) e
  | replySent => exact now_le_of_event_of_eq State.replySent_now e
  | replySegmentSent => exact now_le_of_event_of_eq State.segmentSent_now e
  | recordSent => exact now_le_of_event_of_eq State.recordSent_now e
  | closeWalkStep => exact now_le_of_event_of_eq State.walkStep_now e
  | closeWalkFinalStep => exact now_le_of_event_of_eq State.finalStep_now e
  | pollFrameSent => exact now_le_of_event_of_eq (fun u => u.pollSent_now _) e
  | replyTimeout => exact now_le_of_event (fun u => u.now_le_expireReply _) e
  | replyCharacterGap => exact now_le_of_event_of_eq (fun u => u.missExchange_now _) e
  | replyAborted => exact now_le_of_event_of_eq (fun u => u.missExchange_now _) e
  | spurReply => exact now_le_of_event_of_eq (fun u => u.judgeReply_now ..) e
  | lockerTap =>
    refine now_le_of_event_of_eq (fun u => u.takeTap_now _ fun en v => ?_) e
    cases en with
    | lock => exact v.tapLock_now _
    | _ => rfl
  | kioskTap =>
    refine now_le_of_event_of_eq (fun u => u.takeTap_now _ fun en v => ?_) e
    cases en with
    | kiosk => exact v.tapKiosk_now ..
    | _ => rfl
  | outsideReaderTap =>
    refine now_le_of_event_of_eq (fun u => u.takeTap_now _ fun en v => ?_) e
    cases en with
    | cabin => exact v.tapOutside_now ..
    | _ => rfl
  | insideReaderTap =>
    refine now_le_of_event_of_eq (fun u => u.takeTap_now _ fun en v => ?_) e
    cases en with
    | cabin => exact v.tapInside_now ..
    | _ => rfl
  | exitTap =>
    refine now_le_of_event_of_eq (fun u => u.takeTap_now _ fun en v => ?_) e
    cases en with
    | exit => exact v.tapExit_now _
    | _ => rfl
  | lockerDoorReport =>
    refine now_le_of_event_of_eq (fun u => u.takeReport_now _ _ _ fun en v => ?_) e
    cases en with
    | lock => exact v.lockerDoor_now ..
    | _ => rfl
  | cabinDoorReport =>
    refine now_le_of_event_of_eq (fun u => u.takeReport_now _ _ _ fun en v => ?_) e
    cases en with
    | cabin => exact v.cabinDoor_now ..
    | _ => rfl
  | boltResult =>
    refine now_le_of_event_of_eq (fun u => u.takeReport_now _ _ _ fun en v => ?_) e
    cases en with
    | lock => exact v.takeResult_now ..
    | cabin =>
      dsimp only
      split
      · exact v.takeResult_now ..
      · rfl
    | _ => rfl
  | attemptDeadline => exact now_le_of_event (fun u => u.now_le_expireAttempt _) e
  | status => exact now_le_of_event_of_eq (fun u => u.takeItem_now _ _ _ fun v => v.matchStatus_now ..) e
  | reserveDeadline => exact now_le_of_event (fun u => u.now_le_lapseReservation _) e
  | entryDeadline => exact now_le_of_event (fun u => u.now_le_expireEntry _) e
  | warningPoint => exact now_le_of_event (fun u => u.now_le_reachWarning _) e
  | occupancyExpiry => exact now_le_of_event (fun u => u.now_le_expireOccupancy _) e
  | callDeadline => exact now_le_of_event (fun u => u.now_le_expireCall _) e
  | lineChange => exact now_le_of_event_of_eq (f := (State.drivePin · _ _)) (fun _ => rfl) e
  | settleTimer => exact now_le_of_event (fun u => u.now_le_settleLine _) e
  | _ => exact now_le_of_event_of_eq (fun u => u.takeFrame_now ..) e

/-! ### The queue of waiting commands and the count of events (log 1) -/

/-- No primitive change that a command makes, its count apart, writes the queue of waiting commands or the count of
events. -/
theorem keptEvent_of_pending_eventNo {Q : List Instr → Nat → Prop} : KeptEvent (fun s => Q s.pending s.eventNo) where
  time h := h
  alerts h := h
  watches h := h
  write e h := by obtain ⟨-, rfl⟩ := State.write?_eq_some.mp e; exact h
  reserve e h := by obtain ⟨-, rfl⟩ := State.reserve?_eq_some.mp e; exact h
  writeReserve e h := by obtain ⟨-, rfl⟩ := State.writeReserve?_eq_some.mp e; exact h
  convert {s b} h := by obtain ⟨q, e⟩ := s.convert_only b; rw [e]; exact h
  release h := h
  putLocker h := h
  putCabin h := h
  rotors h := h
  classQueues h := h
  tickets h := h
  modBand {s slot f} _ h := by obtain ⟨v, e⟩ := s.modBand_only slot f; rw [e]; exact h
  dropBand h := h
  modHead {s sp a f} _ h := by obtain ⟨v, e⟩ := s.modHead_only sp a f; rw [e]; exact h
  port _ h := h
  transmit h := h
  paused h := h
  dropLocker h := h
  dropCabin h := h
  zones h := h
  cabinClasses h := h
  classes h := h
  tariffs h := h
  schedule h := h
  control h := h
  lines h := h
  issue _ _ _ _ h := h
  rename {s slot _ _ new} _ _ _ h := by
    obtain ⟨v, e⟩ := s.modBand_only slot (fun b => { b with serial := new })
    rw [State.rename, e]
    exact h
  evacuation h := h
  timeSet h := h
  openDay _ _ h := h
  beginClosing _ h := h
  makeHead h := h
  dropHead h := h
  restartPort h := h
  assembly h := h
  reset h := h
  dropRecord h := h
  minute h := h
  walkWaits _ h := h
  walkWakes _ h := h
  walkPast _ _ _ _ h := h
  closeDay _ _ h := h
  joinReply _ h := h
  dropReply h := h

/-- Every command leaves the queue of waiting commands and counts one event. -/
theorem pending_eventNo_of_exec {c : Instr} {s t : State} (e : exec c s = .next t) :
    t.pending = s.pending ∧ t.eventNo = s.eventNo + 1 :=
  (keptEvent_of_pending_eventNo (Q := fun q n => q = s.pending ∧ n = s.eventNo + 1)).exec ⟨rfl, rfl⟩ e

end Sys2Proof.Machine

namespace Sys2Proof.Proofs
open Sys2Proof Sys2Proof.Machine

/-- Settles O2: what a command leaves and counts is kept by each primitive change, and only the rows of a timer move the
clock, to the later of two moments. -/
theorem everyStepAnswers : Obligations.EveryStepAnswers := by
  refine ⟨fun c s => ?_, fun _ h => step_of_empty h⟩
  obtain ⟨t, e⟩ := exec_answers c s
  obtain ⟨hpending, hcount⟩ := pending_eventNo_of_exec e
  exact ⟨t, e, hpending, hcount, now_le_of_exec e⟩

end Sys2Proof.Proofs

/-! ## BOLT results and the attempts (04 R75 to R79) -/

namespace Sys2Proof.Machine
open Sys2Proof.Claims

section Results
variable {s : State} {d : DoorId} {dir : Direction} {o : BoltOutcome} {x : Action}

/-! ### A result at a door (R76, R78) -/

theorem setBolt_eq (s : State) (d : DoorId) (b : Bolt) : s.setBolt d b = bolted s d b := by
  cases d with
  | locker n =>
    unfold State.setBolt State.modLocker bolted
    cases s.locker? n <;> rfl
  | cabin n => rfl

theorem bolted_of_absent {n : Fin 1024} (hl : s.locker? n = none) (b : Bolt) : bolted s (.locker n) b = s := by
  simp only [bolted, hl]

theorem bolted_of_locker {n : Fin 1024} {l : Locker} (hl : s.locker? n = some l) (b : Bolt) :
    bolted s (.locker n) b = withLocker s n { l with bolt := b } := by
  simp only [bolted, hl]

/-- The bolt field leaves the action in flight. -/
theorem action?_bolted (s : State) (d : DoorId) (b : Bolt) : (bolted s d b).action? d = s.action? d := by
  cases d with
  | locker n =>
    cases hl : s.locker? n with
    | none => rw [bolted_of_absent hl]
    | some l => simp [bolted_of_locker hl, State.action?, hl, locker?_withLocker]
  | cabin n => rfl

/-- The bolt field leaves the door field. -/
theorem doorField_bolted (s : State) (d : DoorId) (b : Bolt) : (bolted s d b).doorField d = s.doorField d := by
  cases d with
  | locker n =>
    cases hl : s.locker? n with
    | none => rw [bolted_of_absent hl]
    | some l => simp [bolted_of_locker hl, State.doorField, hl, locker?_withLocker]
  | cabin n => rfl

theorem takeResult_of_idle (h : s.action? d = none) (dir : Direction) (o : BoltOutcome) :
    s.takeResult d dir o = bolted s d (boltAfter dir o) := by
  rw [State.takeResult, setBolt_eq, action?_bolted, h]

/-- A result of the movement in flight completes it or fails its attempt; another sets the bolt field alone. -/
theorem takeResult_of_action (h : s.action? d = some x) : s.takeResult d dir o =
    let u := bolted s d (boltAfter dir o)
    if x.direction ≠ dir then u
    else if o = .done ∧ ¬(dir = .throw ∧ s.doorField d = .opened) then u.complete d x
    else u.failAttempt d := by
  rw [State.takeResult, setBolt_eq]
  dsimp only
  rw [action?_bolted, doorField_bolted, h]
  refine if_congr Iff.rfl rfl ?_
  cases o with
  | failed found => exact (if_neg fun hdone => nomatch hdone.1).symm
  | done => simp only [true_and, ite_not]

/-- The row of a result at the locker or cabin its head reports of. -/
theorem leads_of_bolt {sp : Fin 4} {a : Fin 32} {i : Fin 8} {e : Enrolment} (hrep : Reports s sp a e)
    (hd : (∃ k, e = .lock k ∧ d = .locker (lockerAt sp a i)) ∨ (∃ n, e = .cabin n ∧ i = 0 ∧ d = .cabin n)) :
    Leads (.boltResult sp a i dir o) s ((counted s).takeResult d dir o) sp a (.bolt (BitVec.ofNat 8 i.val) dir o) := by
  have hlead := leads_of_report (i := .boltResult sp a i dir o) hrep rfl
  rcases hd with ⟨k, rfl, rfl⟩ | ⟨n, rfl, rfl, rfl⟩
  · exact hlead
  · exact hlead

/-! ### An attempt's deadline (R77) -/

theorem exec_attemptDeadline {u : State} (h : (counted s).expireAttempt d = u) :
    exec (.attemptDeadline d) s = .next u.arbitrate := h ▸ rfl

theorem expireAttempt_of_idle (h : s.action? d = none) : s.expireAttempt d = s := by
  rw [State.expireAttempt, h]

theorem expireAttempt_of_action (h : s.action? d = some x) :
    s.expireAttempt d = (bolted (s.passTo x.deadline) d .unknown).failAttempt d := by
  rw [State.expireAttempt, h]
  dsimp only
  rw [setBolt_eq]

/-! ### Attempts (R75, R77) -/

theorem failAttempt_of_action (h : s.action? d = some x) : s.failAttempt d =
    if x.attempt < s.control.retries + 1 then s.startAttempt d { x with attempt := x.attempt + 1 }
    else s.finalFailure d x := by
  rw [State.failAttempt, h]

theorem startAttempt_locker {n : Fin 1024} {l : Locker} (hl : s.locker? n = some l) (x : Action) :
    s.startAttempt (.locker n) x =
      (withLocker s n { l with action := some { x with deadline := s.now + s.control.actuation * 100 } }).place
        (lockerSpur n) (lockerAddress n) (.actuate (lockerDoor n) x.direction) := by
  rw [State.startAttempt, State.setAction, State.modLocker_of s hl]
  rfl

theorem startAttempt_cabin {n : Fin 64} {c : Cabin} (hc : s.cabin? n = some c) (x : Action) :
    s.startAttempt (.cabin n) x =
      (withCabin s n { c with action := some { x with deadline := s.now + s.control.actuation * 100 } }).place
        c.spur c.address (.actuate 0 x.direction) := by
  rw [State.startAttempt, State.setAction, State.modCabin_of s hc, State.doorHome, hc]
  rfl

end Results

end Sys2Proof.Machine

namespace Sys2Proof.Proofs
open Sys2Proof Sys2Proof.Machine Sys2Proof.Claims

/-- Settles O56: a result by the movement in flight, an attempt's deadline, and the attempts. -/
theorem boltResults : Obligations.BoltResults := by
  intro s
  refine ⟨fun sp a i e d dir o hrep hd => ?_, fun d => ⟨fun hnone => ?_, fun x hx => ?_⟩,
    fun d x hx => failAttempt_of_action hx,
    fun x => ⟨fun n l hl => startAttempt_locker hl x, fun n c hc => startAttempt_cabin hc x⟩⟩
  · intro row it bolt u
    have hlead : Leads row s ((counted s).takeResult d dir o) sp a it := leads_of_bolt hrep hd
    have hu : bolted (counted s) d (boltAfter dir o) = u := by
      cases o with
      | failed found => rfl
      | done => cases dir <;> rfl
    refine ⟨fun hnone => ?_, fun x hx => ?_⟩
    · rwa [takeResult_of_idle (s := counted s) (by cases d <;> exact hnone), hu] at hlead
    · rw [takeResult_of_action (s := counted s) (by cases d <;> exact hx), hu] at hlead
      simp only [apply_ite (fun t => Leads row s t sp a it)] at hlead
      have hdoor : (counted s).doorField d = s.doorField d := by cases d <;> rfl
      rwa [hdoor] at hlead
  · exact exec_attemptDeadline (expireAttempt_of_idle (s := counted s) (by cases d <;> exact hnone))
  · exact exec_attemptDeadline (expireAttempt_of_action (s := counted s) (by cases d <;> exact hx))

end Sys2Proof.Proofs

/-! ## The ends of a locker's action (03 R62, 04 R79 to R82) -/

namespace Sys2Proof.Machine
open Sys2Proof.Claims

section LockerEnds
variable {s : State} {n : Fin 1024} {l : Locker} {x : Action}

/-- The end of a locker's action writes its entry and the spurs alone (R79). -/
theorem endAction_locker_eq (hl : s.locker? n = some l) :
    ∃ v, s.endAction (.locker n) = withLocker { s with spurs := v } n { l with action := none } := by
  obtain ⟨v, hv⟩ := s.modHead_only (lockerSpur n) (lockerAddress n) (·.withdraw (lockerDoor n))
  exact ⟨v, by rw [endAction_of_locker hl, hv]⟩

/-! ### The change of state at a completion (R62, R80, R82) -/

theorem settleCompletion_orphanedThrow (hl : s.locker? n = some l) (ho : x.orphaned = true) (hd : x.direction = .throw) :
    s.settleCompletion n l x = noticed (withLocker s n { l with state := .inspect, holder := none }) .inspect (.locker n)
      (.cause .orphaned) := by
  rw [State.settleCompletion, if_pos ho, hd]
  dsimp only
  rw [State.enterInspect, State.modLocker_of s hl]
  rfl

theorem settleCompletion_orphanedRetract (hl : s.locker? n = some l) (ho : x.orphaned = true)
    (hd : x.direction = .retract) :
    s.settleCompletion n l x = withLocker s n { l with state := .vacant, holder := none } := by
  rw [State.settleCompletion, if_pos ho, hd]
  exact State.modLocker_of s hl _

/-- A claim that completes locks the locker and adds its zone's fee to its holder's fees. -/
theorem settleCompletion_claim {y : Serial} {slot : Nat} {b : Band} (hl : s.locker? n = some l)
    (ho : x.orphaned = false) (hp : x.purpose = .claim) (hy : l.holder = some y) (hb : Present s y slot b) :
    s.settleCompletion n l x = withLocker (withBand s slot { b with fees := satAdd b.fees (s.zones[l.zone]).fee }) n
      { l with state := .locked } := by
  rw [State.settleCompletion, if_neg (by simp [ho]), hp]
  dsimp only
  have hcharged : s.chargeClaim l = withBand s slot { b with fees := satAdd b.fees (s.zones[l.zone]).fee } := by
    rw [State.chargeClaim, hy, modSerial_of_present hb]
  rw [hcharged]
  exact State.modLocker_of (withBand s slot _) hl _

theorem settleCompletion_relock (hl : s.locker? n = some l) (ho : x.orphaned = false) (hp : x.purpose = .relock) :
    s.settleCompletion n l x = withLocker s n { l with state := .locked } := by
  rw [State.settleCompletion, if_neg (by simp [ho]), hp]
  exact State.modLocker_of s hl _

theorem settleCompletion_opening (hl : s.locker? n = some l) (ho : x.orphaned = false) (hp : x.purpose = .opening) :
    s.settleCompletion n l x = withLocker s n { l with state := .released } := by
  rw [State.settleCompletion, if_neg (by simp [ho]), hp]
  exact State.modLocker_of s hl _

theorem settleCompletion_staffOpen (hl : s.locker? n = some l) (ho : x.orphaned = false) (hp : x.purpose = .staffOpen) :
    s.settleCompletion n l x = withLocker s n { l with state := afterStaffOpen l } := by
  rw [State.settleCompletion, if_neg (by simp [ho]), hp]
  exact State.modLocker_of s hl _

/-! ### The record of the end (R79, R81, R82) -/

/-- After its change of state, a completion turns the place held into its record. -/
theorem completeLocker_eq {u : State} (hl : s.locker? n = some l) (hu : s.settleCompletion n l x = u)
    (hr : 0 < u.queue.reserved) : s.completeLocker n x =
      converted u (.action x.purpose n (if x.orphaned = true then none else x.holder) x.requester x.orphaned) := by
  rw [State.completeLocker, hl]
  dsimp only
  rw [hu]
  exact State.convert_of_pos hr

theorem failLocker_eq (hl : s.locker? n = some l) (hr : 0 < s.queue.reserved) : s.failLocker n x =
    converted (noticed (withLocker s n { l with state := .jammed }) .jammed (.locker n) (.purpose x.purpose))
      (.failed (.locker n) (if x.orphaned = true then none else x.holder) x.requester x.purpose x.attempt
        x.orphaned) := by
  rw [State.failLocker, State.modLocker_of s hl]
  exact State.convert_of_pos hr

end LockerEnds

end Sys2Proof.Machine

namespace Sys2Proof.Proofs
open Sys2Proof Sys2Proof.Machine Sys2Proof.Claims

/-- Settles O57: the action ends, leaving the entry without it; the change of state follows the orphaned mark and the
purpose, and the place held becomes the record. -/
theorem lockerActionEnds : Obligations.LockerActionEnds := by
  intro s n l x hl hx _ hr u holder record goes
  have hcomplete : s.complete (.locker n) x = u.completeLocker n x := rfl
  have hfail : s.finalFailure (.locker n) x = u.failLocker n x := rfl
  obtain ⟨v, hu⟩ : ∃ v, u = withLocker { s with spurs := v } n { l with action := none } := endAction_locker_eq hl
  have hlocker : u.locker? n = some { l with action := none } := by rw [hu]; exact locker?_withLocker ..
  have hreserved : 0 < u.queue.reserved := by rw [hu]; exact hr
  have hvisit : u.visit = s.visit := by rw [hu]; rfl
  have hzones : u.zones = s.zones := by rw [hu]; rfl
  clear_value u
  rw [hcomplete, hfail]
  refine ⟨fun ho hd => completeLocker_eq hlocker (settleCompletion_orphanedThrow hlocker ho hd) hreserved,
    fun ho hd => completeLocker_eq hlocker (settleCompletion_orphanedRetract hlocker ho hd) hreserved,
    fun ho => ⟨fun hp y slot b hy hb => ?_,
      fun hp => completeLocker_eq hlocker (settleCompletion_relock hlocker ho hp) hreserved,
      fun hp => completeLocker_eq hlocker (settleCompletion_opening hlocker ho hp) hreserved, fun hp => ?_⟩,
    failLocker_eq hlocker hreserved⟩
  · have hpresent : Present u y slot b := by
      unfold Present State.findBand
      rw [hvisit]
      exact hb
    rw [completeLocker_eq hlocker (settleCompletion_claim hlocker ho hp hy hpresent) hreserved, hzones]
    rfl
  · refine (completeLocker_eq hlocker (settleCompletion_staffOpen hlocker ho hp) hreserved).trans (congrArg goes ?_)
    unfold afterStaffOpen
    dsimp only
    cases l.state with
    | jammed => cases l.holder <;> rfl
    | _ => rfl

end Sys2Proof.Proofs

/-! ## Turns taken one after another: the entries they change, the records they write, the links they clear -/

namespace Sys2Proof.Machine
open Sys2Proof.Claims

/-! ### The Visit Table under changes by serial (R7) -/

section Serials
variable {f : Band → Band} {v : List (Nat × Band)}

/-- A band whose cabin link is cleared (R7). -/
def Band.withoutCabin (b : Band) : Band := { b with cabinLink := none }

/-- A band whose queue link is cleared (R7). -/
def Band.withoutQueue (b : Band) : Band := { b with queueLink := none }

/-- The Visit Table with the record of a serial changed, if that band is present. -/
def visitChanged (f : Band → Band) (v : List (Nat × Band)) (x : Serial) : List (Nat × Band) :=
  match v.find? (fun e => e.2.serial == x) with
  | some (slot, _) => match Table.get? slot v with
    | some b => Table.put slot (f b) v
    | none => v
  | none => v

theorem modSerial_some (s : State) (x : Serial) (f : Band → Band) :
    s.modSerial (some x) f = { s with visit := visitChanged f s.visit x } := by
  simp only [State.modSerial, visitChanged, State.findBand]
  cases s.visit.find? (fun e => e.2.serial == x) with
  | none => rfl
  | some e =>
    cases hb : s.band? e.1 with
    | none => simp only [State.modBand, hb, show Table.get? e.1 s.visit = none from hb]
    | some b => simp only [State.modBand, hb, show Table.get? e.1 s.visit = some b from hb]; rfl

/-- The clear-cabin-link step, on the Visit Table. -/
theorem clearCabinLink_eq_visitChanged (s : State) (x : Option Serial) : s.clearCabinLink x =
    { s with visit := x.toList.foldl (visitChanged Band.withoutCabin) s.visit } := by
  cases x with
  | none => rfl
  | some x => exact modSerial_some ..

/-- The Visit Table with the records of some serials changed, each in its slot. -/
def serialsChanged (f : Band → Band) (xs : List Serial) (v : List (Nat × Band)) : List (Nat × Band) :=
  v.map (fun e => (e.1, if e.2.serial ∈ xs then f e.2 else e.2))

/-- A read after the change of the records of some serials. -/
theorem get?_serialsChanged (f : Band → Band) (xs : List Serial) (v : List (Nat × Band)) (slot : Nat) :
    Table.get? slot (serialsChanged f xs v) = (Table.get? slot v).map (fun b => if b.serial ∈ xs then f b else b) :=
  Table.get?_map slot (fun _ (b : Band) => if b.serial ∈ xs then f b else b) v

/-- Where serials are distinct, a change by serial is the change of every record that carries it. -/
theorem visitChanged_eq (hw : Table.wf v = true) (hd : serialsDistinct v) (x : Serial) :
    visitChanged f v x = serialsChanged f [x] v := by
  unfold visitChanged serialsChanged
  cases hfind : v.find? (fun e => e.2.serial == x) with
  | none =>
    have habsent : ∀ e ∈ v, e.2.serial ≠ x := fun e he => by simpa using List.find?_eq_none.mp hfind e he
    refine ((List.map_congr_left fun e he => ?_).trans (List.map_id v)).symm
    rw [if_neg (by simpa using habsent e he)]
    rfl
  | some e =>
    obtain ⟨slot, b⟩ := e
    have hmem : (slot, b) ∈ v := List.mem_of_find?_eq_some hfind
    have hserial : b.serial = x := by simpa using List.find?_some hfind
    have hget : Table.get? slot v = some b := Table.get?_of_mem hw hmem
    simp only [hget]
    rw [Table.put_eq_map hw hget f]
    refine List.map_congr_left fun e he => ?_
    have hkey : e.1 = slot ↔ e.2.serial ∈ [x] := by
      rw [List.mem_singleton]
      refine ⟨fun hk => ?_, fun hs => hd e he _ hmem (hs.trans hserial.symm)⟩
      have : Table.get? slot v = some e.2 := hk ▸ Table.get?_of_mem hw he
      rw [show e.2 = b from Option.some.inj (this.symm.trans hget), hserial]
    simp only [hkey]

/-- A change that leaves serials leaves them distinct. -/
theorem serialsDistinct_serialsChanged (hf : ∀ b, (f b).serial = b.serial) (xs : List Serial) (hd : serialsDistinct v) :
    serialsDistinct (serialsChanged f xs v) := by
  have hserial : ∀ b : Band, (if b.serial ∈ xs then f b else b).serial = b.serial := fun b => by split <;> simp [hf]
  intro e he e' he' heq
  obtain ⟨g, hg, rfl⟩ := List.mem_map.mp he
  obtain ⟨g', hg', rfl⟩ := List.mem_map.mp he'
  exact hd g hg g' hg' (by simpa only [hserial] using heq)

/-- Changes by serial one after another are the change of all the records at once, if a second change of one adds
nothing. -/
theorem foldl_visitChanged (hf : ∀ b, (f b).serial = b.serial) (hff : ∀ b, f (f b) = f b) (xs : List Serial)
    (hw : Table.wf v = true) (hd : serialsDistinct v) : xs.foldl (visitChanged f) v = serialsChanged f xs v := by
  induction xs generalizing v with
  | nil => simp [serialsChanged]
  | cons x xs ih =>
    have hwf : Table.wf (serialsChanged f [x] v) = true := Table.wf_map _ hw
    rw [List.foldl_cons, visitChanged_eq hw hd, ih hwf (serialsDistinct_serialsChanged hf _ hd), serialsChanged,
      serialsChanged, serialsChanged, List.map_map]
    refine List.map_congr_left fun e _ => ?_
    by_cases hx : e.2.serial = x
    · by_cases hxs : e.2.serial ∈ xs <;> simp_all
    · simp [hx]

end Serials

/-! ### The Record Queue under conversions (R142) -/

/-- The Record Queue with a reservation, if one is held, turned into a record. -/
def recordMade (minute : Nat) (q : RecordQueue) (b : RecordBody) : RecordQueue :=
  if 0 < q.reserved then { q with records := q.records ++ [⟨minute, b⟩], reserved := q.reserved - 1 } else q

theorem convert_eq_recordMade (s : State) (b : RecordBody) :
    s.convert b = { s with queue := recordMade s.clock.siteMinute s.queue b } := by
  unfold State.convert recordMade
  split <;> rfl

/-- With a place held for each record, all are written, in their order. -/
theorem foldl_recordMade (minute : Nat) {q : RecordQueue} {bs : List RecordBody} (h : bs.length ≤ q.reserved) :
    bs.foldl (recordMade minute) q = { q with
      records := q.records ++ bs.map (fun b => ⟨minute, b⟩), reserved := q.reserved - bs.length } := by
  induction bs generalizing q with
  | nil => simp
  | cons b bs ih =>
    rw [List.length_cons] at h
    have hmade : recordMade minute q b =
        { q with records := q.records ++ [⟨minute, b⟩], reserved := q.reserved - 1 } := if_pos (by omega)
    rw [List.foldl_cons, hmade, ih (by dsimp only; omega)]
    simp only [List.append_assoc, List.singleton_append, List.map_cons, List.length_cons, Nat.sub_sub, Nat.add_comm 1]

/-! ### Turns of lockers or cabins -/

/-- What turns taken one after another leave: the entries of the numbers that had one changed, a record made of the place
of each that stood for one, the cabin link of the band of each that named one cleared, and what the turns keep as it
was. -/
structure TurnsTaken {α β γ : Type} [DecidableEq α] (read : State → α → Option β) (keep : State → γ) (change : β → β)
    (entry : α → β → Option RecordBody) (link : α → β → Option Serial) (s : State) (ns : List α) (t : State) : Prop where
  frame : t = { s with
    lockers := t.lockers, cabins := t.cabins, visit := t.visit, queue := t.queue, spurs := t.spurs }
  kept : keep t = keep s
  entries : ∀ n, read t n = (read s n).map (fun c => if n ∈ ns then change c else c)
  records : t.queue = (ns.filterMap (fun n => (read s n).bind (entry n))).foldl (recordMade s.clock.siteMinute) s.queue
  links : t.visit = (ns.filterMap (fun n => (read s n).bind (link n))).foldl
    (visitChanged Band.withoutCabin) s.visit

namespace TurnsTaken

variable {α β γ : Type} [DecidableEq α] {read : State → α → Option β} {keep : State → γ} {change : β → β}
  {entry : α → β → Option RecordBody} {link : α → β → Option Serial} {s t u : State} {ns : List α}

theorem nil (s : State) : TurnsTaken read keep change entry link s [] s :=
  ⟨rfl, rfl, by simp, rfl, rfl⟩

/-- A turn at a number that has no entry changes nothing. -/
theorem absent {n : α} (h : read s n = none) : TurnsTaken read keep change entry link s [n] s := by
  refine ⟨rfl, rfl, fun m => ?_, by simp [h], by simp [h]⟩
  by_cases hm : m = n
  · subst hm; simp [h]
  · simp [hm]

/-- A turn at a number that has an entry, by what it makes of it. -/
theorem one {n : α} {c : β} (h : read s n = some c)
    (hframe : t = { s with
      lockers := t.lockers, cabins := t.cabins, visit := t.visit, queue := t.queue, spurs := t.spurs })
    (hkeep : keep t = keep s) (hself : read t n = some (change c)) (hne : ∀ m, m ≠ n → read t m = read s m)
    (hqueue : t.queue = (entry n c).toList.foldl (recordMade s.clock.siteMinute) s.queue)
    (hvisit : t.visit = (link n c).toList.foldl (visitChanged Band.withoutCabin) s.visit) :
    TurnsTaken read keep change entry link s [n] t := by
  have hlist {δ : Type} (g : α → β → Option δ) : [n].filterMap (fun m => (read s m).bind (g m)) = (g n c).toList := by
    cases hg : g n c <;> simp [h, hg]
  refine ⟨hframe, hkeep, fun m => ?_, by rw [hlist, hqueue], by rw [hlist, hvisit]⟩
  by_cases hm : m = n
  · subst hm; simp [h, hself]
  · simp [hne m hm, hm]

/-- One more turn in front. -/
theorem cons {n : α} (hn : n ∉ ns) (h : TurnsTaken read keep change entry link s [n] t)
    (h' : TurnsTaken read keep change entry link t ns u) : TurnsTaken read keep change entry link s (n :: ns) u := by
  have hne : ∀ m ∈ ns, m ≠ n := fun m hm => ne_of_mem_of_not_mem hm hn
  have hsame : ∀ m ∈ ns, read t m = read s m := fun m hm => by simp [h.entries, hne m hm]
  have hrest {δ : Type} (g : α → β → Option δ) :
      ns.filterMap (fun m => (read t m).bind (g m)) = ns.filterMap (fun m => (read s m).bind (g m)) :=
    List.filterMap_congr fun m hm => by rw [hsame m hm]
  have hfirst {δ : Type} (g : α → β → Option δ) : (n :: ns).filterMap (fun m => (read s m).bind (g m)) =
      [n].filterMap (fun m => (read s m).bind (g m)) ++ ns.filterMap (fun m => (read s m).bind (g m)) :=
    List.filterMap_append (l := [n])
  have hclock : t.clock = s.clock := by rw [h.frame]
  refine ⟨?_, h'.kept.trans h.kept, fun m => ?_, ?_, ?_⟩
  · rw [h'.frame, h.frame]
  · rw [h'.entries]
    by_cases hm : m ∈ ns
    · simp [hsame m hm, hm]
    · rw [h.entries, Option.map_map]
      exact congrArg (Option.map · _) (funext fun c => by simp [hm])
  · rw [h'.records, h.records, hrest, hclock, hfirst, List.foldl_append]
  · rw [h'.links, h.links, hrest, hfirst, List.foldl_append]

/-- Turns are taken one after another, each at its own number, by an operation whose one turn is so described wherever
time, settings and clock stand as at the start. -/
theorem foldl {turn : State → α → State}
    (hone : ∀ u, u.now = s.now → u.control = s.control → u.clock = s.clock → ∀ n,
      TurnsTaken read keep change entry link u [n] (turn u n))
    (hns : ns.Nodup) : TurnsTaken read keep change entry link s ns (ns.foldl turn s) := by
  induction ns generalizing s with
  | nil => exact nil s
  | cons n ns ih =>
    obtain ⟨hn, hns⟩ := List.nodup_cons.mp hns
    have hturn := hone s rfl rfl rfl n
    have hnow : (turn s n).now = s.now := by rw [hturn.frame]
    have hcontrol : (turn s n).control = s.control := by rw [hturn.frame]
    have hclock : (turn s n).clock = s.clock := by rw [hturn.frame]
    refine hturn.cons hn (ih (fun u h₁ h₂ h₃ => hone u ?_ ?_ ?_) hns)
    · exact h₁.trans hnow
    · exact h₂.trans hcontrol
    · exact h₃.trans hclock

/-- The Record Queue after the turns, a place being held for each record they make. -/
theorem queue_eq (h : TurnsTaken read keep change entry link s ns t)
    (hr : (ns.filterMap (fun n => (read s n).bind (entry n))).length ≤ s.queue.reserved) :
    t.queue = { s.queue with
      records := s.queue.records ++ (ns.filterMap (fun n => (read s n).bind (entry n))).map
        (fun b => ⟨s.clock.siteMinute, b⟩)
      reserved := s.queue.reserved - (ns.filterMap (fun n => (read s n).bind (entry n))).length } := by
  rw [h.records, foldl_recordMade _ hr]

/-- The Visit Table after the turns, where serials are distinct. -/
theorem visit_eq (h : TurnsTaken read keep change entry link s ns t) (hw : Table.wf s.visit = true)
    (hd : serialsDistinct s.visit) : t.visit = serialsChanged Band.withoutCabin
      (ns.filterMap (fun n => (read s n).bind (link n))) s.visit := by
  rw [h.links]
  exact foldl_visitChanged (f := Band.withoutCabin) (fun _ => rfl) (fun _ => rfl) _ hw hd

end TurnsTaken

end Sys2Proof.Machine

/-! ## Evacuation asserted and released (04 R79, R83, 06 R111, R116, R118) -/

namespace Sys2Proof.Machine
open Sys2Proof.Claims

/-! ### The evacuation flag takes no part in the steps of a cabin -/

section Flag
variable (s : State) (on : Bool)

@[simp] theorem setEvacuation_cabin? (n : Fin 64) : (s.setEvacuation on).cabin? n = s.cabin? n := rfl

@[simp] theorem setEvacuation_action? (n : Fin 64) :
    (s.setEvacuation on).action? (.cabin n) = s.action? (.cabin n) := rfl

theorem convert_setEvacuation (b : RecordBody) : (s.setEvacuation on).convert b = (s.convert b).setEvacuation on := by
  rw [convert_eq_recordMade, convert_eq_recordMade]
  rfl

theorem modSerial_setEvacuation (x : Option Serial) (f : Band → Band) :
    (s.setEvacuation on).modSerial x f = (s.modSerial x f).setEvacuation on := by
  cases x with
  | none => rfl
  | some x => rw [modSerial_some, modSerial_some]; rfl

theorem modCabin_setEvacuation (n : Fin 64) (f : Cabin → Cabin) :
    (s.setEvacuation on).modCabin n f = (s.modCabin n f).setEvacuation on := by
  unfold State.modCabin
  rw [setEvacuation_cabin?]
  cases s.cabin? n <;> rfl

theorem modHead_setEvacuation (sp : Fin 4) (a : Fin 32) (f : Head → Head) :
    (s.setEvacuation on).modHead sp a f = (s.modHead sp a f).setEvacuation on := by
  unfold State.modHead
  rw [show (s.setEvacuation on).head? sp a = s.head? sp a from rfl]
  cases s.head? sp a <;> rfl

theorem handOver_setEvacuation (n : Fin 64) (dir : Direction) (p : Purpose) (x y : Option Serial) (sl : Bool) :
    (s.setEvacuation on).handOver (.cabin n) dir p x y sl = (s.handOver (.cabin n) dir p x y sl).setEvacuation on := by
  rw [handOver_eq, handOver_eq, State.setAction, State.setAction, modCabin_setEvacuation]
  cases hd : s.doorHome (.cabin n) with
  | none => rw [show (s.setEvacuation on).doorHome (.cabin n) = none from hd]; rfl
  | some home =>
    rw [show (s.setEvacuation on).doorHome (.cabin n) = some home from hd]
    exact modHead_setEvacuation ..

theorem dropAction_setEvacuation (n : Fin 64) :
    (s.setEvacuation on).dropAction (.cabin n) = (s.dropAction (.cabin n)).setEvacuation on := by
  unfold State.dropAction
  rw [setEvacuation_action?]
  cases s.action? (.cabin n) with
  | none => rfl
  | some x =>
    dsimp only
    cases hc : s.cabin? n with
    | none => simp [State.endAction, State.withdraw, State.doorHome, hc, State.setAction, State.modCabin]
    | some c =>
      rw [endAction_of_cabin hc, endAction_of_cabin (s := s.setEvacuation on) hc, modHead_setEvacuation]
      rfl

theorem followLamp_setEvacuation (n : Fin 64) :
    (s.setEvacuation on).followLamp n = (s.followLamp n).setEvacuation on := by
  cases hc : s.cabin? n with
  | none => rw [followLamp_of_absent hc, followLamp_of_absent (s := s.setEvacuation on) hc]
  | some c =>
    rw [followLamp_of_cabin hc, followLamp_of_cabin (s := s.setEvacuation on) hc,
      show (s.setEvacuation on).now = s.now from rfl, apply_ite (State.setEvacuation · on), placeLamp_of_cabin hc,
      placeLamp_of_cabin (s := s.setEvacuation on) hc]
    exact congrArg _ (modHead_setEvacuation (withCabin s n _) on _ _ _)

end Flag

/-! ### What the steps of a cabin write -/

section CabinSteps
variable {s : State} {n m : Fin 64} {c : Cabin}

theorem modHead_putCabin (s : State) (n : Fin 64) (c : Cabin) (sp : Fin 4) (a : Fin 32) (f : Head → Head) :
    (s.putCabin n c).modHead sp a f = (s.modHead sp a f).putCabin n c := by
  unfold State.modHead
  rw [show (s.putCabin n c).head? sp a = s.head? sp a from rfl]
  cases s.head? sp a <;> rfl

/-- A hand-over at a cabin writes its entry and the spurs alone. -/
theorem handOver_cabin_eq (hc : s.cabin? n = some c) (dir : Direction) (p : Purpose) (x y : Option Serial) (sl : Bool) :
    ∃ v, s.handOver (.cabin n) dir p x y sl =
      withCabin { s with spurs := v } n { c with action := some (newAction s dir p x y sl) } := by
  obtain ⟨v, hv⟩ := place_only (withCabin s n { c with action := some (newAction s dir p x y sl) }) c.spur c.address
    (.actuate 0 dir)
  exact ⟨v, by rw [handOver_cabin hc, hv]; rfl⟩

theorem cabin?_withCabin_ne (h : m ≠ n) (s : State) (c : Cabin) : (withCabin s n c).cabin? m = s.cabin? m :=
  State.cabin?_putCabin_ne s h c

/-- A cabin's movement ended, its entry written anew, and another movement handed over, with no place (R79, R83). -/
def State.rehanded (s : State) (n : Fin 64) (c c' : Cabin) (dir : Direction) (p : Purpose) : State :=
  (withCabin (if c.action = none then s else s.endAction (.cabin n)) n c').handOver (.cabin n) dir p none none false

/-- The spurs apart, the end of a movement does not show through the entry written anew and the hand-over. -/
theorem rehanded_eq (hc : s.cabin? n = some c) (c' : Cabin) (dir : Direction) (p : Purpose) :
    ∃ v, s.rehanded n c c' dir p =
      withCabin { s with spurs := v } n { c' with action := some (newAction s dir p none none false) } := by
  have hended : ∃ v, withCabin (if c.action = none then s else s.endAction (.cabin n)) n c' =
      withCabin { s with spurs := v } n c' := by
    split
    · exact ⟨s.spurs, rfl⟩
    · obtain ⟨v, hv⟩ := endAction_eq hc
      exact ⟨v, by rw [hv, withCabin_withCabin]⟩
  obtain ⟨v, hv⟩ := hended
  obtain ⟨v', hv'⟩ := handOver_cabin_eq (cabin?_withCabin { s with spurs := v } n c') dir p none none false
  exact ⟨v', by rw [State.rehanded, hv, hv']; exact withCabin_withCabin { s with spurs := v' } n c' _⟩

theorem followLamp_cabin?_self (hc : s.cabin? n = some c) :
    (s.followLamp n).cabin? n = some { c with lamp := c.pattern s.now } := by
  rw [followLamp_of_cabin hc]
  split
  · next h => rw [h]; exact hc
  · rw [placeLamp_of_cabin hc, place_cabin?]
    exact cabin?_withCabin ..

theorem followLamp_cabin?_ne (h : m ≠ n) : (s.followLamp n).cabin? m = s.cabin? m := by
  cases hc : s.cabin? n with
  | none => rw [followLamp_of_absent hc]
  | some c =>
    rw [followLamp_of_cabin hc]
    split
    · rfl
    · rw [placeLamp_of_cabin hc, place_cabin?]
      exact State.cabin?_putCabin_ne s h _

end CabinSteps

/-! ### One cabin at the assertion (R83, R111, R116) -/

section Assertion
variable {s : State} {n : Fin 64} {c : Cabin}

theorem evacuationRecord_eq (s : State) (n : Fin 64) (c : Cabin) :
    s.evacuationRecord n c = evacuationEntry s.now n c := by
  unfold State.evacuationRecord evacuationEntry
  cases c.state <;> rfl

/-- The band whose cabin link the assertion clears: of a cabin whose place it turns into a record. -/
def evacuationLink (now : Nat) (n : Fin 64) (c : Cabin) : Option Serial := (evacuationEntry now n c).bind fun _ => c.band

/-- The place of a cabin turned into its record, and the link of its band cleared. -/
def State.placeEnded (s : State) (n : Fin 64) (c : Cabin) : State :=
  match evacuationEntry s.now n c with
  | some r => (s.convert r).clearCabinLink c.band
  | none => s

theorem placeEnded_eq (s : State) (n : Fin 64) (c : Cabin) : s.placeEnded n c = { s with
    queue := (evacuationEntry s.now n c).toList.foldl (recordMade s.clock.siteMinute) s.queue
    visit := (evacuationLink s.now n c).toList.foldl (visitChanged Band.withoutCabin) s.visit } := by
  unfold State.placeEnded evacuationLink
  cases evacuationEntry s.now n c with
  | none => rfl
  | some r =>
    dsimp only
    rw [convert_eq_recordMade, clearCabinLink_eq_visitChanged]
    rfl

/-- With a place held for its record, the end of a cabin's place is the record and the link cleared. -/
theorem placeEnded_of_reserved (hw : Table.wf s.visit = true)
    (hr : evacuationEntry s.now n c ≠ none → 0 < s.queue.reserved) : s.placeEnded n c =
      match evacuationEntry s.now n c with
      | some r => unlinked (converted s r) c.band
      | none => s := by
  unfold State.placeEnded
  cases he : evacuationEntry s.now n c with
  | none => rfl
  | some r => exact clearCabinLink_convert hw (hr (by simp [he])) r c.band

theorem evacuateCabin_of_absent (hc : s.cabin? n = none) : s.evacuateCabin n = s := by
  rw [State.evacuateCabin, hc]

theorem evacuateCabin_of_disabled (hc : s.cabin? n = some c) (hs : c.state = .disabled) : s.evacuateCabin n = s := by
  rw [State.evacuateCabin, hc]
  exact if_pos hs

/-- The movement in flight at a cabin ends as its entry is evacuated. -/
theorem dropAction_evacuate {u : State} (hc : u.cabin? n = some c) (now : Nat) :
    (u.putCabin n (c.evacuate now)).dropAction (.cabin n) =
      withCabin (if c.action = none then u else u.endAction (.cabin n)) n (evacuated now c) := by
  have hput : (u.putCabin n (c.evacuate now)).cabin? n = some (c.evacuate now) := State.cabin?_putCabin_self ..
  have haction : (u.putCabin n (c.evacuate now)).action? (.cabin n) = c.action := by simp [State.action?]; rfl
  unfold State.dropAction
  rw [haction]
  cases ha : c.action with
  | none =>
    have hentry : c.evacuate now = evacuated now c := by
      obtain ⟨⟩ := c
      cases ha
      rfl
    rw [hentry]
    rfl
  | some x =>
    rw [if_neg (by simp), endAction_of_cabin hc, withCabin_withCabin]
    refine (endAction_of_cabin hput).trans ?_
    rw [modHead_putCabin]
    exact withCabin_withCabin ..

/-- A cabin not DISABLED at the assertion: its place, its movement, its entry, its EVAC action, its lamp. -/
theorem evacuateCabin_of_cabin (hc : s.cabin? n = some c) (hs : c.state ≠ .disabled) :
    let u := s.placeEnded n c
    s.evacuateCabin n = ((withCabin (if c.action = none then u else u.endAction (.cabin n)) n
      (evacuated s.now c)).handOver (.cabin n) .retract .evac none none false).followLamp n := by
  intro u
  have hcab : u.cabin? n = some c := by
    rw [show u = _ from placeEnded_eq s n c]
    exact hc
  rw [← dropAction_evacuate hcab, ← State.modCabin_of u hcab (·.evacuate s.now), State.evacuateCabin, hc]
  dsimp only
  rw [if_neg hs, evacuationRecord_eq]
  rfl

/-- A cabin's entry after the assertion. -/
def State.evacuatedEntry (s : State) (c : Cabin) : Cabin :=
  if c.state = .disabled then c
  else { evacuated s.now c with lamp := .off, action := some (newAction s .retract .evac none none false) }

theorem evacuatedEntry_congr {u : State} (hnow : u.now = s.now) (hcontrol : u.control = s.control) :
    u.evacuatedEntry = s.evacuatedEntry := by
  funext c
  simp only [State.evacuatedEntry, newAction, hnow, hcontrol]

/-- One turn of the assertion. -/
theorem evacuateCabin_turn (s : State) (n : Fin 64) : TurnsTaken State.cabin? State.lockers s.evacuatedEntry
    (evacuationEntry s.now) (evacuationLink s.now) s [n] (s.evacuateCabin n) := by
  cases hc : s.cabin? n with
  | none =>
    rw [evacuateCabin_of_absent hc]
    exact .absent hc
  | some c =>
    by_cases hs : c.state = .disabled
    · have hentry : evacuationEntry s.now n c = none := by simp [evacuationEntry, hs]
      rw [evacuateCabin_of_disabled hc hs]
      refine .one hc rfl rfl ?_ (fun _ _ => rfl) (by rw [hentry]; rfl) (by rw [evacuationLink, hentry]; rfl)
      rw [hc, State.evacuatedEntry, if_pos hs]
    · have hturn : s.evacuateCabin n =
          ((s.placeEnded n c).rehanded n c (evacuated s.now c) .retract .evac).followLamp n := evacuateCabin_of_cabin hc hs
      have hended := placeEnded_eq s n c
      obtain ⟨v, hv⟩ := rehanded_eq (s := s.placeEnded n c) (by rw [hended]; exact hc) (evacuated s.now c) .retract .evac
      obtain ⟨k, w, hlamp⟩ := followLamp_only ((s.placeEnded n c).rehanded n c (evacuated s.now c) .retract .evac) n
      have hframe : s.evacuateCabin n = { s.placeEnded n c with cabins := k, spurs := w } := by
        rw [hturn, hlamp, hv]
        rfl
      have hsame : newAction (s.placeEnded n c) .retract .evac none none false =
          newAction s .retract .evac none none false := by rw [hended]; rfl
      refine .one hc (by rw [hframe, hended]) (by rw [hframe, hended]) ?_ (fun m hm => ?_) (by rw [hframe, hended]) (by rw [hframe, hended])
      · rw [hturn, hv, hsame, followLamp_cabin?_self (cabin?_withCabin ..), State.evacuatedEntry, if_neg hs]
        rfl
      · rw [hturn, hv, followLamp_cabin?_ne hm, cabin?_withCabin_ne hm, hended]
        rfl

theorem evacuateCabin_setEvacuation (s : State) (on : Bool) (n : Fin 64) :
    (s.setEvacuation on).evacuateCabin n = (s.evacuateCabin n).setEvacuation on := by
  cases hc : s.cabin? n with
  | none => rw [evacuateCabin_of_absent hc, evacuateCabin_of_absent (s := s.setEvacuation on) hc]
  | some c =>
    by_cases hs : c.state = .disabled
    · rw [evacuateCabin_of_disabled hc hs, evacuateCabin_of_disabled (s := s.setEvacuation on) hc hs]
    · simp only [State.evacuateCabin, setEvacuation_cabin?, hc, if_neg hs,
        show (s.setEvacuation on).evacuationRecord n c = s.evacuationRecord n c from rfl,
        show (s.setEvacuation on).now = s.now from rfl]
      cases s.evacuationRecord n c <;>
        simp only [State.clearCabinLink, convert_setEvacuation, modSerial_setEvacuation, modCabin_setEvacuation,
          dropAction_setEvacuation, handOver_setEvacuation, followLamp_setEvacuation]

end Assertion

/-! ### The class queues emptied (R116) -/

section ClassQueues
variable {s : State}

/-- The serials waiting in a class queue, in its order. -/
def State.waiting (s : State) (k : Fin 4) : List Serial := (s.classQueue k).map QueueEntry.serial

theorem emptyQueue_eq (s : State) (k : Fin 4) : s.emptyQueue k = { s with
    visit := (s.waiting k).foldl (visitChanged Band.withoutQueue) s.visit, classQueues := s.classQueues.set k.val [] } := by
  have hlinks (q : List QueueEntry) (u : State) :
      q.foldl (fun u e => u.modSerial (some e.serial) (fun b => { b with queueLink := none })) u =
        { u with visit := (q.map QueueEntry.serial).foldl (visitChanged Band.withoutQueue) u.visit } := by
    induction q generalizing u with
    | nil => rfl
    | cons e q ih =>
      rw [List.foldl_cons, ih, modSerial_some]
      rfl
  rw [State.emptyQueue, hlinks]
  rfl

/-- The serials waiting in all the class queues. -/
def State.allWaiting (s : State) : List Serial := (List.finRange 4).flatMap s.waiting

theorem mem_allWaiting_iff {x : Serial} :
    x ∈ s.allWaiting ↔ ∃ (k : Fin 4) (e : QueueEntry), e ∈ s.classQueues[k] ∧ e.serial = x := by
  simp [State.allWaiting, State.waiting, State.classQueue]

/-- The emptying of one queue leaves who waits in another. -/
theorem waiting_emptyQueue {k j : Fin 4} (h : j ≠ k) : (s.emptyQueue k).waiting j = s.waiting j := by
  have hval : k.val ≠ j.val := fun e => h (Fin.ext e.symm)
  rw [emptyQueue_eq]
  simp [State.waiting, State.classQueue, Vector.getElem_set_ne, hval]

/-- Queues emptied one after another. -/
theorem foldl_emptyQueue (s : State) {ks : List (Fin 4)} (hks : ks.Nodup) : ks.foldl State.emptyQueue s = { s with
    visit := (ks.flatMap s.waiting).foldl (visitChanged Band.withoutQueue) s.visit
    classQueues := ks.foldl (fun v k => v.set k.val []) s.classQueues } := by
  induction ks generalizing s with
  | nil => rfl
  | cons k ks ih =>
    obtain ⟨hk, hks⟩ := List.nodup_cons.mp hks
    have hrest : ks.flatMap (s.emptyQueue k).waiting = ks.flatMap s.waiting :=
      List.flatMap_congr fun j hj => waiting_emptyQueue (ne_of_mem_of_not_mem hj hk)
    rw [List.foldl_cons, ih _ hks, hrest, emptyQueue_eq, List.flatMap_cons, List.foldl_append]
    rfl

/-- All the class queues are emptied. -/
theorem emptyQueues_eq (s : State) : (List.finRange 4).foldl State.emptyQueue s = { s with
    visit := s.allWaiting.foldl (visitChanged Band.withoutQueue) s.visit, classQueues := Vector.replicate 4 [] } := by
  have hempty : (List.finRange 4).foldl (fun v k => v.set k.val []) s.classQueues = Vector.replicate 4 [] := by
    ext1 i hi
    have : i = 0 ∨ i = 1 ∨ i = 2 ∨ i = 3 := by omega
    rcases this with rfl | rfl | rfl | rfl <;> simp [List.finRange_succ]
  rw [foldl_emptyQueue s (List.nodup_finRange 4), hempty]
  rfl

end ClassQueues

/-! ### One cabin at the release (R118; log 38) -/

section Release
variable {s : State} {n : Fin 64} {c : Cabin}

theorem releaseCabin_of_absent (hc : s.cabin? n = none) : s.releaseCabin n = s := by
  rw [State.releaseCabin, hc]

theorem releaseCabin_of_other (hc : s.cabin? n = some c) (hs : c.state ≠ .evacuated) : s.releaseCabin n = s := by
  rw [State.releaseCabin, hc]
  exact if_neg hs

theorem releaseCabin_of_evacuated (hc : s.cabin? n = some c) (hs : c.state = .evacuated) :
    s.releaseCabin n = s.rehanded n c { c with action := none, statusWait := .nothing } .throw .reset := by
  have haction : s.action? (.cabin n) = c.action := by simp [State.action?, hc]
  rw [State.releaseCabin, hc]
  dsimp only
  rw [if_pos hs, State.handReset, State.rehanded, State.dropAction, haction]
  congr 1
  cases ha : c.action with
  | none =>
    dsimp only
    rw [State.modCabin_of s hc, ha]
    rfl
  | some x =>
    dsimp only
    rw [State.modCabin_of _ (endAction_cabin hc).1]
    rfl

/-- A cabin's entry after the release. -/
def State.releasedEntry (s : State) (c : Cabin) : Cabin :=
  if c.state = .evacuated then
    { c with statusWait := .nothing, action := some (newAction s .throw .reset none none false) }
  else c

theorem releasedEntry_congr {u : State} (hnow : u.now = s.now) (hcontrol : u.control = s.control) :
    u.releasedEntry = s.releasedEntry := by
  funext c
  simp only [State.releasedEntry, newAction, hnow, hcontrol]

/-- One turn of the release: it makes no record and clears no link. -/
theorem releaseCabin_turn (s : State) (n : Fin 64) : TurnsTaken State.cabin? State.lockers s.releasedEntry
    (fun _ _ => none) (fun _ _ => none) s [n] (s.releaseCabin n) := by
  cases hc : s.cabin? n with
  | none =>
    rw [releaseCabin_of_absent hc]
    exact .absent hc
  | some c =>
    by_cases hs : c.state = .evacuated
    · obtain ⟨v, hv⟩ := rehanded_eq hc { c with action := none, statusWait := .nothing } .throw .reset
      rw [releaseCabin_of_evacuated hc hs, hv]
      refine .one hc rfl rfl ?_ (fun m hm => cabin?_withCabin_ne hm ..) rfl rfl
      rw [cabin?_withCabin, State.releasedEntry, if_pos hs]
    · rw [releaseCabin_of_other hc hs]
      refine .one hc rfl rfl ?_ (fun _ _ => rfl) rfl rfl
      rw [hc, State.releasedEntry, if_neg hs]

theorem releaseCabin_setEvacuation (s : State) (on : Bool) (n : Fin 64) :
    (s.setEvacuation on).releaseCabin n = (s.releaseCabin n).setEvacuation on := by
  cases hc : s.cabin? n with
  | none => rw [releaseCabin_of_absent hc, releaseCabin_of_absent (s := s.setEvacuation on) hc]
  | some c =>
    by_cases hs : c.state = .evacuated
    · simp only [State.releaseCabin, setEvacuation_cabin?, hc, if_pos hs, State.handReset, modCabin_setEvacuation,
        dropAction_setEvacuation, handOver_setEvacuation]
    · rw [releaseCabin_of_other hc hs, releaseCabin_of_other (s := s.setEvacuation on) hc hs]

end Release

/-! ### The numbers of the cabins, ascending -/

section Numbers
variable {s : State} {n : Fin 64}

theorem mem_cabinNumbers_iff (hw : Table.wf s.cabins = true) : n ∈ s.cabinNumbers ↔ (s.cabin? n).isSome = true :=
  Table.mem_keysBelow_iff_isSome hw

theorem sorted_cabinNumbers (hw : Table.wf s.cabins = true) : s.cabinNumbers.Pairwise (· < ·) :=
  Table.pairwise_lt_keysBelow hw

theorem nodup_cabinNumbers (hw : Table.wf s.cabins = true) : s.cabinNumbers.Nodup := Table.nodup_keysBelow hw

end Numbers

section CabinTurns
variable {change : Cabin → Cabin} {entry : Fin 64 → Cabin → Option RecordBody}
  {link : Fin 64 → Cabin → Option Serial} {s t : State} {ns : List (Fin 64)}

/-- Turns that keep the lockers write the cabins, the Visit Table, the Record Queue and the spurs alone. -/
theorem TurnsTaken.cabins_frame (h : TurnsTaken State.cabin? State.lockers change entry link s ns t) :
    t = { s with cabins := t.cabins, visit := t.visit, queue := t.queue, spurs := t.spurs } := by
  have hframe := h.frame
  rwa [h.kept] at hframe

/-- An entry after a turn of every cabin. -/
theorem TurnsTaken.cabin?_of_all {γ : Type} {keep : State → γ} {n : Fin 64}
    (h : TurnsTaken State.cabin? keep change entry link s s.cabinNumbers t) (hw : Table.wf s.cabins = true) :
    t.cabin? n = (s.cabin? n).map change := by
  rw [h.entries]
  refine Option.map_congr fun c hc => if_pos ((mem_cabinNumbers_iff hw).mpr ?_)
  rw [Option.mem_def.mp hc]
  rfl

end CabinTurns

section Assertion
variable {s : State}

/-! ### The assertion (R116) -/

/-- The state once every cabin has had its turn of the assertion. -/
def State.cabinsEvacuated (s : State) : State := s.cabinNumbers.foldl State.evacuateCabin (s.setEvacuation true)

theorem cabinsEvacuated_turns (hw : Table.wf s.cabins = true) : TurnsTaken State.cabin? State.lockers s.evacuatedEntry
    (evacuationEntry s.now) (evacuationLink s.now) (s.setEvacuation true) s.cabinNumbers s.cabinsEvacuated :=
  TurnsTaken.foldl (s := s.setEvacuation true) (fun u hnow hcontrol _ n => by
    have hturn := evacuateCabin_turn u n
    rwa [evacuatedEntry_congr (s := s) hnow hcontrol, hnow] at hturn) (nodup_cabinNumbers hw)

/-- The assertion: the turns of the cabins, then the class queues emptied, whose bands lose their queue links. -/
theorem assertEvacuation_eq (hw : Table.wf s.cabins = true) : s.assertEvacuation = { s.cabinsEvacuated with
    visit := s.allWaiting.foldl (visitChanged Band.withoutQueue) s.cabinsEvacuated.visit
    classQueues := Vector.replicate 4 [] } := by
  have hqueues : s.cabinsEvacuated.classQueues = s.classQueues := by
    rw [(cabinsEvacuated_turns hw).cabins_frame]
    rfl
  have hwaiting : s.cabinsEvacuated.allWaiting = s.allWaiting := by
    unfold State.allWaiting State.waiting State.classQueue
    rw [hqueues]
  exact (emptyQueues_eq s.cabinsEvacuated).trans (by rw [hwaiting])

/-- The spurs do not depend on the flag. -/
theorem cabinsEvacuated_spurs (s : State) :
    s.cabinsEvacuated.spurs = (s.cabinNumbers.foldl State.evacuateCabin s).spurs := by
  have hflag : s.cabinsEvacuated = (s.cabinNumbers.foldl State.evacuateCabin s).setEvacuation true :=
    List.foldl_hom (State.setEvacuation · true) fun u n => evacuateCabin_setEvacuation u true n
  rw [hflag]
  rfl

/-- The assertion clears the cabin links of the bands of cabins in use. -/
theorem evacuationLink_eq_some_iff {now : Nat} {n : Fin 64} {c : Cabin} {x : Serial} :
    evacuationLink now n c = some x ↔
      c.band = some x ∧ c.state ∈ [CabinState.called, .admitting, .occupied, .overtime, .vacating] := by
  unfold evacuationLink evacuationEntry
  cases c.state <;> simp

/-- A band's record after the assertion, where serials are distinct. -/
theorem band?_assertEvacuation (hv : Table.wf s.visit = true) (hc : Table.wf s.cabins = true)
    (hd : serialsDistinct s.visit) (slot : Nat) :
    let links := s.cabinNumbers.filterMap (fun n => (s.cabin? n).bind (evacuationLink s.now n))
    s.assertEvacuation.band? slot = (s.band? slot).map (fun b => { b with
      cabinLink := if b.serial ∈ links then none else b.cabinLink
      queueLink := if b.serial ∈ s.allWaiting then none else b.queueLink }) := by
  intro links
  have hvisit : s.cabinsEvacuated.visit = serialsChanged Band.withoutCabin links s.visit :=
    (cabinsEvacuated_turns hc).visit_eq hv hd
  have hwf : Table.wf (serialsChanged Band.withoutCabin links s.visit) = true := Table.wf_map _ hv
  have hdistinct : serialsDistinct (serialsChanged Band.withoutCabin links s.visit) :=
    serialsDistinct_serialsChanged (f := Band.withoutCabin) (fun _ => rfl) _ hd
  have hlinks : s.assertEvacuation.visit =
      serialsChanged Band.withoutQueue s.allWaiting (serialsChanged Band.withoutCabin links s.visit) := by
    rw [assertEvacuation_eq hc]
    dsimp only
    rw [hvisit]
    exact foldl_visitChanged (f := Band.withoutQueue) (fun _ => rfl) (fun _ => rfl) _ hwf hdistinct
  unfold State.band?
  rw [hlinks, get?_serialsChanged, get?_serialsChanged, Option.map_map]
  refine congrArg (Option.map · _) (funext fun b => ?_)
  by_cases hcabin : b.serial ∈ links <;> by_cases hqueue : b.serial ∈ s.allWaiting <;>
    simp [hcabin, hqueue, Band.withoutCabin, Band.withoutQueue]

end Assertion

section Release
variable {s : State}

/-! ### The release (R118) -/

theorem releaseEvacuation_turns (hw : Table.wf s.cabins = true) : TurnsTaken State.cabin? State.lockers s.releasedEntry
    (fun _ _ => none) (fun _ _ => none) (s.setEvacuation false) s.cabinNumbers s.releaseEvacuation :=
  TurnsTaken.foldl (s := s.setEvacuation false) (fun u hnow hcontrol _ n => by
    have hturn := releaseCabin_turn u n
    rwa [releasedEntry_congr (s := s) hnow hcontrol] at hturn) (nodup_cabinNumbers hw)

/-- The spurs do not depend on the flag. -/
theorem releaseEvacuation_spurs (s : State) :
    s.releaseEvacuation.spurs = (s.cabinNumbers.foldl State.releaseCabin s).spurs := by
  have hflag : s.releaseEvacuation = (s.cabinNumbers.foldl State.releaseCabin s).setEvacuation false :=
    List.foldl_hom (State.setEvacuation · false) fun u n => releaseCabin_setEvacuation u false n
  rw [hflag]
  rfl

/-- The release writes the flag, the cabins and the spurs alone. -/
theorem releaseEvacuation_frame (hw : Table.wf s.cabins = true) : s.releaseEvacuation =
    { s with
      clock := { s.clock with evacuation := false }
      cabins := s.releaseEvacuation.cabins, spurs := s.releaseEvacuation.spurs } := by
  have hturns := releaseEvacuation_turns hw
  have hqueue : s.releaseEvacuation.queue = s.queue := by rw [hturns.records]; simp
  have hvisit : s.releaseEvacuation.visit = s.visit := by rw [hturns.links]; simp
  have hframe := hturns.cabins_frame
  rwa [hqueue, hvisit] at hframe

end Release

end Sys2Proof.Machine

namespace Sys2Proof.Proofs
open Sys2Proof Sys2Proof.Machine Sys2Proof.Claims

/-- Settles O41: the assertion and the release as the turns of the cabins in ascending order, each cabin's turn, and the
class queues emptied. -/
theorem evacuationRule : Obligations.EvacuationRule := by
  intro s htables
  obtain ⟨hvisit, -, hcabins, -⟩ := htables
  have hturns := cabinsEvacuated_turns hcabins
  have hnumbers : ∀ n, n ∈ s.cabinNumbers ↔ (s.cabin? n).isSome = true := fun n => mem_cabinNumbers_iff hcabins
  refine ⟨?_, fun n c hc => ⟨evacuateCabin_of_disabled hc, fun hs hr => ?_⟩, ?_,
    fun n c hc => ⟨releaseCabin_of_other hc, releaseCabin_of_evacuated hc⟩⟩
  · intro t
    have ht : t = { s.cabinsEvacuated with
        visit := s.allWaiting.foldl (visitChanged Band.withoutQueue) s.cabinsEvacuated.visit
        classQueues := Vector.replicate 4 [] } := assertEvacuation_eq hcabins
    have hentry : ∀ n, t.cabin? n = (s.cabin? n).map s.evacuatedEntry := fun n => by
      rw [ht]
      exact hturns.cabin?_of_all hcabins
    refine ⟨?_, fun n hn => ?_, fun n c hc hs => ?_, fun n c hc hs => ?_,
      ⟨s.cabinNumbers, sorted_cabinNumbers hcabins, hnumbers, ?_, fun hr => ?_⟩, fun hd slot => ?_⟩
    · rw [ht, hturns.cabins_frame]
      rfl
    · rw [hentry, hn]
      rfl
    · rw [hentry, hc, Option.map_some, State.evacuatedEntry, if_pos hs]
    · rw [hentry, hc, Option.map_some, State.evacuatedEntry, if_neg hs]
    · rw [ht]
      exact cabinsEvacuated_spurs s
    · rw [ht]
      exact hturns.queue_eq hr
    · have hband : t.band? slot = _ := band?_assertEvacuation hvisit hcabins hd slot
      refine ⟨fun hn => by rw [hband, hn]; rfl, fun b hb => ?_⟩
      intro lost left
      have hlost : b.serial ∈ s.cabinNumbers.filterMap (fun n => (s.cabin? n).bind (evacuationLink s.now n)) ↔ lost := by
        simp only [List.mem_filterMap, Option.bind_eq_some_iff, evacuationLink_eq_some_iff]
        constructor
        · rintro ⟨n, -, c, hc, hin⟩
          exact ⟨n, c, hc, hin⟩
        · rintro ⟨n, c, hc, hin⟩
          exact ⟨n, (hnumbers n).mpr (by rw [hc]; rfl), c, hc, hin⟩
      have hleft : b.serial ∈ s.allWaiting ↔ left := mem_allWaiting_iff
      rw [hb, Option.map_some] at hband
      exact ⟨_, _, hband, fun h => if_pos (hlost.mpr h), fun h => if_neg (h ∘ hlost.mp), fun h => if_pos (hleft.mpr h),
        fun h => if_neg (h ∘ hleft.mp)⟩
  · have hturn := evacuateCabin_of_cabin hc hs
    rw [placeEnded_of_reserved hvisit hr] at hturn
    exact hturn
  · intro t
    have hentry : ∀ n, t.cabin? n = (s.cabin? n).map s.releasedEntry := fun n =>
      (releaseEvacuation_turns hcabins).cabin?_of_all hcabins
    refine ⟨releaseEvacuation_frame hcabins, fun n hn => ?_, fun n c hc hs => ?_, fun n c hc hs => ?_,
      s.cabinNumbers, sorted_cabinNumbers hcabins, hnumbers, releaseEvacuation_spurs s⟩
    · rw [hentry, hn]
      rfl
    · rw [hentry, hc, Option.map_some, State.releasedEntry, if_neg hs]
    · rw [hentry, hc, Option.map_some, State.releasedEntry, if_pos hs]

end Sys2Proof.Proofs

/-! ## RESTART (04 R84, 06 R119, 09 R163 to R165, R171) -/

namespace Sys2Proof.Machine
open Sys2Proof.Claims

/-! ### A locker's movement abandoned (R79, R84) -/

section LockerTurn
variable {s : State} {n : Fin 1024} {l : Locker}

/-- A locker whose movement, if it has one, a RESTART has abandoned. -/
def Locker.abandoned (l : Locker) : Locker :=
  if l.action = none then l else { l with state := .verify, reserveDeadline := none, action := none }

/-- The record an abandoned locker movement leaves. -/
def lockerAbandonment (n : Fin 1024) (l : Locker) : Option RecordBody :=
  l.action.map fun x =>
    .abandoned (.locker n) (if x.orphaned = true then none else x.holder) x.requester x.purpose x.orphaned

theorem abandonAt_of_absent (hl : s.locker? n = none) : s.abandonAt n = s := by
  simp [State.abandonAt, State.action?, hl]

theorem abandonAt_of_idle (hl : s.locker? n = some l) (ha : l.action = none) : s.abandonAt n = s := by
  simp [State.abandonAt, State.action?, hl, ha]

theorem abandonAt_of_moving {x : Action} (hl : s.locker? n = some l) (ha : l.action = some x) : s.abandonAt n =
    { withLocker s n { l with state := .verify, reserveDeadline := none, action := none } with
      queue := (lockerAbandonment n l).toList.foldl (recordMade s.clock.siteMinute) s.queue } := by
  have haction : s.action? (.locker n) = some x := by simp [State.action?, hl, ha]
  rw [State.abandonAt, haction]
  dsimp only
  rw [State.abandonLocker, convert_eq_recordMade, State.setAction, State.modLocker_of s hl,
    State.modLocker_of _ (State.locker?_putLocker_self ..), State.putLocker_putLocker, lockerAbandonment, ha]
  rfl

/-- One turn of a locker: it clears no link. -/
theorem abandonAt_turn (s : State) (n : Fin 1024) : TurnsTaken State.locker? (fun u => (u.cabins, u.spurs))
    Locker.abandoned lockerAbandonment (fun _ _ => none) s [n] (s.abandonAt n) := by
  cases hl : s.locker? n with
  | none =>
    rw [abandonAt_of_absent hl]
    exact .absent hl
  | some l =>
    cases ha : l.action with
    | none =>
      rw [abandonAt_of_idle hl ha]
      refine .one hl rfl rfl ?_ (fun _ _ => rfl) (by rw [lockerAbandonment, ha]; rfl) rfl
      rw [hl, Locker.abandoned, if_pos ha]
    | some x =>
      rw [abandonAt_of_moving hl ha]
      refine .one hl rfl rfl ?_ (fun m hm => State.locker?_putLocker_ne s hm _) rfl rfl
      rw [Locker.abandoned, if_neg (by simp [ha])]
      exact locker?_withLocker ..

end LockerTurn

/-! ### A cabin's movement abandoned (R119) -/

section CabinTurn
variable {s : State} {n : Fin 64} {c : Cabin}

/-- The record an abandoned ADMIT leaves. -/
def cabinAbandonment (n : Fin 64) (c : Cabin) : Option RecordBody :=
  if c.state = .admitting then some (.abandoned (.cabin n) c.band none .admission false) else none

/-- The band whose cabin link an abandoned ADMIT clears. -/
def abandonmentLink (_ : Fin 64) (c : Cabin) : Option Serial := if c.state = .admitting then c.band else none

theorem abandonCabin_of_absent (hc : s.cabin? n = none) : s.abandonCabin n = s := by
  rw [State.abandonCabin, hc]

/-- A cabin other than an ADMITTING one leaves no record and no link to clear. -/
theorem abandonCabin_of_other (hc : s.cabin? n = some c) (hs : c.state ≠ .admitting) :
    s.abandonCabin n = withCabin s n (restartedCabin s.clock.evacuation c) := by
  have hput : (s.putCabin n { c with action := none }).cabin? n = some { c with action := none } :=
    State.cabin?_putCabin_self ..
  rw [State.abandonCabin, hc]
  dsimp only
  simp only [State.modCabin_of _ hput, State.putCabin_putCabin]
  unfold restartedCabin
  cases hstate : c.state with
  | admitting => exact absurd hstate hs
  | _ => rfl

theorem abandonCabin_of_admitting (hc : s.cabin? n = some c) (hs : c.state = .admitting) : s.abandonCabin n =
    { withCabin s n (restartedCabin s.clock.evacuation c) with
      queue := recordMade s.clock.siteMinute s.queue (.abandoned (.cabin n) c.band none .admission false)
      visit := c.band.toList.foldl (visitChanged Band.withoutCabin) s.visit } := by
  have hadmit : s.abandonCabin n = (((s.putCabin n { c with action := none }).convert
      (.abandoned (.cabin n) c.band none .admission false)).clearCabinLink c.band).modCabin n
        (fun c => { c with state := .disabled, band := none, ticket := none, slot := false, statusWait := .reopen }) := by
    rw [State.abandonCabin, hc]
    dsimp only
    split
    · rfl
    all_goals next h => exact absurd (hs.symm.trans h) (by decide)
  have hput : (((s.putCabin n { c with action := none }).convert
      (.abandoned (.cabin n) c.band none .admission false)).clearCabinLink c.band).cabin? n =
        some { c with action := none } := by
    rw [clearCabinLink_eq_visitChanged, convert_eq_recordMade]
    exact State.cabin?_putCabin_self ..
  rw [hadmit, State.modCabin_of _ hput, clearCabinLink_eq_visitChanged, convert_eq_recordMade, restartedCabin, hs]
  simp [State.putCabin, withCabin]

/-- One turn of a cabin. -/
theorem abandonCabin_turn (s : State) (n : Fin 64) : TurnsTaken State.cabin? (fun u => (u.lockers, u.spurs))
    (restartedCabin s.clock.evacuation) cabinAbandonment abandonmentLink s [n] (s.abandonCabin n) := by
  cases hc : s.cabin? n with
  | none =>
    rw [abandonCabin_of_absent hc]
    exact .absent hc
  | some c =>
    by_cases hs : c.state = .admitting
    · rw [abandonCabin_of_admitting hc hs]
      refine .one hc rfl rfl (cabin?_withCabin ..) (fun m hm => cabin?_withCabin_ne hm s _) ?_ ?_
      · rw [cabinAbandonment, if_pos hs]
        rfl
      · rw [abandonmentLink, if_pos hs]
    · rw [abandonCabin_of_other hc hs]
      refine .one hc rfl rfl (cabin?_withCabin ..) (fun m hm => cabin?_withCabin_ne hm s _) ?_ ?_
      · rw [cabinAbandonment, if_neg hs]
        rfl
      · rw [abandonmentLink, if_neg hs]
        rfl

end CabinTurn

/-! ### The movements of a spur abandoned (R84, R119) -/

section Movements
variable {s : State} {sp : Fin 4}

theorem mem_movingLockers_iff (n : Fin 1024) :
    n ∈ s.movingLockers sp ↔ n.val / 256 = sp.val ∧ ∃ l, s.locker? n = some l ∧ l.action ≠ none := by
  have hmove : (s.action? (.locker n)).isSome = true ↔ ∃ l, s.locker? n = some l ∧ l.action ≠ none := by
    simp only [State.action?, Option.isSome_bind, Option.any_eq_true, Option.isSome_iff_ne_none]
  have hspur : lockerSpur n = sp ↔ n.val / 256 = sp.val := Fin.ext_iff
  simp only [State.movingLockers, List.mem_filter, Bool.and_eq_true, beq_iff_eq, hmove, hspur]
  exact and_iff_right_of_imp fun ⟨_, l, hl, _⟩ => Table.mem_keysBelow_of_get? hl

theorem mem_movingCabins_iff (n : Fin 64) :
    n ∈ s.movingCabins sp ↔ ∃ c, s.cabin? n = some c ∧ c.spur = sp ∧ c.action ≠ none := by
  simp only [State.movingCabins, List.mem_filter, Option.any_eq_true, Bool.and_eq_true, beq_iff_eq,
    Option.isSome_iff_ne_none]
  exact and_iff_right_of_imp fun ⟨c, hc, _⟩ => Table.mem_keysBelow_of_get? hc

theorem sorted_movingLockers (hw : Table.wf s.lockers = true) : (s.movingLockers sp).Pairwise (· < ·) :=
  (Table.pairwise_lt_keysBelow hw).filter _

theorem sorted_movingCabins (hw : Table.wf s.cabins = true) : (s.movingCabins sp).Pairwise (· < ·) :=
  (sorted_cabinNumbers hw).filter _

/-- The lockers' movements of a spur abandoned. -/
def State.lockersAbandoned (s : State) (sp : Fin 4) : State := (s.movingLockers sp).foldl State.abandonAt s

/-- The movements of a spur abandoned. -/
def State.movementsAbandoned (s : State) (sp : Fin 4) : State :=
  (s.movingCabins sp).foldl State.abandonCabin (s.lockersAbandoned sp)

theorem lockersAbandoned_turns (hw : Table.wf s.lockers = true) :
    TurnsTaken State.locker? (fun u => (u.cabins, u.spurs)) Locker.abandoned lockerAbandonment (fun _ _ => none) s
      (s.movingLockers sp) (s.lockersAbandoned sp) :=
  .foldl (fun u _ _ _ n => abandonAt_turn u n) ((Table.nodup_keysBelow hw).filter _)

/-- The lockers' turns write the lockers and the Record Queue alone. -/
theorem lockersAbandoned_frame (hw : Table.wf s.lockers = true) : s.lockersAbandoned sp =
    { s with lockers := (s.lockersAbandoned sp).lockers, queue := (s.lockersAbandoned sp).queue } := by
  have hturns := lockersAbandoned_turns (sp := sp) hw
  have hvisit : (s.lockersAbandoned sp).visit = s.visit := by rw [hturns.links]; simp
  obtain ⟨hcabins, hspurs⟩ := Prod.mk.inj hturns.kept
  have hframe := hturns.frame
  rwa [hvisit, hcabins, hspurs] at hframe

theorem movementsAbandoned_turns (hl : Table.wf s.lockers = true) (hc : Table.wf s.cabins = true) :
    TurnsTaken State.cabin? (fun u => (u.lockers, u.spurs)) (restartedCabin s.clock.evacuation) cabinAbandonment
      abandonmentLink (s.lockersAbandoned sp) (s.movingCabins sp) (s.movementsAbandoned sp) := by
  have hclock : (s.lockersAbandoned sp).clock = s.clock := by rw [lockersAbandoned_frame hl]
  refine .foldl (fun u _ _ hu n => ?_) ((nodup_cabinNumbers hc).filter _)
  have hturn := abandonCabin_turn u n
  rwa [hu, hclock] at hturn

/-- The movements abandoned write the lockers, the cabins, the Visit Table and the Record Queue alone. -/
theorem movementsAbandoned_frame (hl : Table.wf s.lockers = true) (hc : Table.wf s.cabins = true) :
    s.movementsAbandoned sp = { s with
      lockers := (s.movementsAbandoned sp).lockers, cabins := (s.movementsAbandoned sp).cabins
      visit := (s.movementsAbandoned sp).visit, queue := (s.movementsAbandoned sp).queue } := by
  have hturns := movementsAbandoned_turns (sp := sp) hl hc
  obtain ⟨-, hspurs⟩ := Prod.mk.inj hturns.kept
  have hframe := hturns.frame
  rw [hspurs, lockersAbandoned_frame hl] at hframe
  exact hframe

theorem locker?_movementsAbandoned (hl : Table.wf s.lockers = true) (hc : Table.wf s.cabins = true) (n : Fin 1024) :
    (s.movementsAbandoned sp).locker? n = (s.locker? n).map (fun l =>
      if n.val / 256 = sp.val ∧ l.action ≠ none
      then { l with state := .verify, reserveDeadline := none, action := none } else l) := by
  obtain ⟨hlockers, -⟩ := Prod.mk.inj (movementsAbandoned_turns (sp := sp) hl hc).kept
  have hkept : (s.movementsAbandoned sp).locker? n = (s.lockersAbandoned sp).locker? n :=
    congrArg (Table.get? n.val) hlockers
  rw [hkept, (lockersAbandoned_turns hl).entries]
  refine Option.map_congr fun l hn => ?_
  have hmem : n ∈ s.movingLockers sp ↔ n.val / 256 = sp.val ∧ l.action ≠ none := by
    rw [mem_movingLockers_iff, Option.mem_def.mp hn]
    simp
  by_cases hm : n.val / 256 = sp.val ∧ l.action ≠ none
  · rw [if_pos (hmem.mpr hm), if_pos hm, Locker.abandoned, if_neg hm.2]
  · rw [if_neg (hm ∘ hmem.mp), if_neg hm]

theorem cabin?_lockersAbandoned (hl : Table.wf s.lockers = true) (n : Fin 64) :
    (s.lockersAbandoned sp).cabin? n = s.cabin? n := by
  rw [lockersAbandoned_frame hl]
  rfl

theorem cabin?_movementsAbandoned (hl : Table.wf s.lockers = true) (hc : Table.wf s.cabins = true) (n : Fin 64) :
    (s.movementsAbandoned sp).cabin? n = (s.cabin? n).map (fun c =>
      if c.spur = sp ∧ c.action ≠ none then restartedCabin s.clock.evacuation c else c) := by
  rw [(movementsAbandoned_turns hl hc).entries, cabin?_lockersAbandoned hl]
  refine Option.map_congr fun c hn => ?_
  have hmem : n ∈ s.movingCabins sp ↔ c.spur = sp ∧ c.action ≠ none := by
    rw [mem_movingCabins_iff, Option.mem_def.mp hn]
    simp
  simp only [hmem]

/-- The cabins of a spur whose ADMIT is in flight, ascending. -/
def State.movingAdmits (s : State) (sp : Fin 4) : List (Fin 64) :=
  (s.movingCabins sp).filter (fun n => (s.cabin? n).any (fun c => c.state == .admitting))

theorem mem_movingAdmits_iff (n : Fin 64) : n ∈ s.movingAdmits sp ↔
    ∃ c, s.cabin? n = some c ∧ c.spur = sp ∧ c.action ≠ none ∧ c.state = .admitting := by
  rw [State.movingAdmits, List.mem_filter, mem_movingCabins_iff, Option.any_eq_true]
  constructor
  · rintro ⟨⟨c, hc, hsp, ha⟩, c', hc', hs⟩
    obtain rfl : c = c' := Option.some.inj (hc.symm.trans hc')
    exact ⟨c, hc, hsp, ha, by simpa using hs⟩
  · rintro ⟨c, hc, hsp, ha, hs⟩
    exact ⟨⟨c, hc, hsp, ha⟩, c, hc, by simpa using hs⟩

theorem filterMap_cabinAbandonment (s : State) (sp : Fin 4) :
    (s.movingCabins sp).filterMap (fun n => (s.cabin? n).bind (cabinAbandonment n)) = (s.movingAdmits sp).filterMap
      (fun n => (s.cabin? n).map (fun c => .abandoned (.cabin n) c.band none .admission false)) := by
  rw [State.movingAdmits, List.filterMap_filter]
  refine List.filterMap_congr fun n _ => ?_
  cases s.cabin? n with
  | none => rfl
  | some c => simp [cabinAbandonment]

/-- Each of the places of the abandoned movements becomes a record, the lockers' first. -/
theorem queue_movementsAbandoned (hl : Table.wf s.lockers = true) (hc : Table.wf s.cabins = true)
    (hr : (s.movingLockers sp).length + (s.movingAdmits sp).length ≤ s.queue.reserved) :
    (s.movementsAbandoned sp).queue = { s.queue with
      records := s.queue.records
        ++ (s.movingLockers sp).filterMap (fun n => ((s.locker? n).bind Locker.action).map (fun x => ⟨s.clock.siteMinute,
            .abandoned (.locker n) (if x.orphaned = true then none else x.holder) x.requester x.purpose x.orphaned⟩))
        ++ (s.movingAdmits sp).filterMap (fun n => (s.cabin? n).map (fun c => ⟨s.clock.siteMinute,
            .abandoned (.cabin n) c.band none .admission false⟩))
      reserved := s.queue.reserved - ((s.movingLockers sp).length + (s.movingAdmits sp).length) } := by
  have hclock : (s.lockersAbandoned sp).clock = s.clock := by rw [lockersAbandoned_frame hl]
  have hlockers : ((s.movingLockers sp).filterMap (fun n => (s.locker? n).bind (lockerAbandonment n))).length =
      (s.movingLockers sp).length := by
    rw [List.length_filterMap_eq_countP, List.countP_eq_length]
    intro n hn
    obtain ⟨-, l, hread, ha⟩ := (mem_movingLockers_iff n).mp hn
    simpa [hread, lockerAbandonment, Option.isSome_iff_ne_none] using ha
  have hadmits : ((s.movingAdmits sp).filterMap (fun n => (s.cabin? n).map (fun c =>
      RecordBody.abandoned (.cabin n) c.band none .admission false))).length = (s.movingAdmits sp).length := by
    rw [List.length_filterMap_eq_countP, List.countP_eq_length]
    intro n hn
    obtain ⟨c, hread, -⟩ := (mem_movingAdmits_iff n).mp hn
    simp [hread]
  have hrecord : ∀ n, ((s.locker? n).bind (lockerAbandonment n)).map (fun b => (⟨s.clock.siteMinute, b⟩ : Record)) =
      ((s.locker? n).bind Locker.action).map (fun x => ⟨s.clock.siteMinute,
        .abandoned (.locker n) (if x.orphaned = true then none else x.holder) x.requester x.purpose x.orphaned⟩) := by
    intro n
    cases s.locker? n with
    | none => rfl
    | some l => simp [lockerAbandonment, Function.comp_def]
  rw [(movementsAbandoned_turns hl hc).records, (lockersAbandoned_turns hl).records, hclock, ← List.foldl_append]
  simp only [cabin?_lockersAbandoned hl]
  rw [filterMap_cabinAbandonment, foldl_recordMade _ (by rw [List.length_append, hlockers, hadmits]; exact hr),
    List.length_append, hlockers, hadmits, List.map_append, List.map_filterMap, List.map_filterMap, ← List.append_assoc]
  simp only [hrecord, Option.map_map]
  rfl

/-- A band's record after the movements are abandoned, where serials are distinct. -/
theorem band?_movementsAbandoned (hw : TablesCanonical s) (hd : serialsDistinct s.visit) (slot : Nat) :
    (s.movementsAbandoned sp).band? slot = (s.band? slot).map (fun b =>
      if b.serial ∈ (s.movingCabins sp).filterMap (fun n => (s.cabin? n).bind (abandonmentLink n))
      then { b with cabinLink := none } else b) := by
  obtain ⟨hv, hl, hc, -⟩ := hw
  have hvisit : (s.lockersAbandoned sp).visit = s.visit := by rw [lockersAbandoned_frame hl]
  have hlinks := (movementsAbandoned_turns (sp := sp) hl hc).visit_eq (by rw [hvisit]; exact hv) (by rw [hvisit]; exact hd)
  rw [hvisit] at hlinks
  simp only [cabin?_lockersAbandoned hl] at hlinks
  unfold State.band?
  rw [hlinks, get?_serialsChanged]
  rfl

end Movements

/-! ### The first poll of a restarted spur (R163 to R165, R171) -/

section Port
variable {p q : Spur} {m : Nat} {a : Fin 32} {h : Head}

theorem head?_restarted (m : Nat) (p : Spur) (a : Fin 32) :
    (p.restarted m).head? a = (p.head? a).map (Head.restarted m) :=
  Table.get?_map a.val (fun _ h => Head.restarted m h) p.heads

/-- After a RESTART every enrolled head is active. -/
theorem activeAt_restarted : ActiveAt (p.restarted m) a ↔ p.head? a ≠ none := by
  rw [← activeAt_iff, Spur.activeAt, head?_restarted]
  cases p.head? a with
  | none => simp
  | some h => simp [Head.active, Head.restarted]

/-- After a RESTART every enrolled head is due since this event. -/
theorem dueSince_restarted {k : Nat} : DueSince (p.restarted m) a k ↔ p.head? a ≠ none ∧ k = m := by
  rw [dueSince_iff, head?_restarted]
  cases p.head? a with
  | none => simp
  | some h => simpa [Head.due, Head.active, Head.restarted] using eq_comm

/-- The head a restarted spur polls first: the first enrolled one of the fast list, else the lowest enrolled one. -/
def PolledFirst (p : Spur) (a : Fin 32) : Prop :=
  p.head? a ≠ none
    ∧ ((∃ skipped rest, p.fastList = skipped ++ a :: rest ∧ ∀ x ∈ skipped, p.head? x = none)
      ∨ (∀ x ∈ p.fastList, p.head? x = none) ∧ ∀ x, p.head? x ≠ none → a ≤ x)

/-- The first turn of a fresh round takes a fast slot or, as every enrolled head is due, promotes one; it is never the
shared turn. -/
theorem polledFirst_of_pollsNext (hn : PollsNext (p.restarted m) a q) :
    PolledFirst p a ∧ ∃ r, q = { p.restarted m with round := r } := by
  have hturn : Turn (p.restarted m) ⟨p.fastList, p.fastList, 2, []⟩ a q := by
    rcases hn with ⟨r, hr, -⟩ | ⟨-, ht⟩
    · exact absurd hr (by simp [Spur.restarted])
    · exact ht
  simp only [Turn, activeAt_restarted, not_not] at hturn
  rcases hturn with ⟨skipped, rest, hfast, ha, hskipped, rfl⟩ | ⟨hnone, hnext, rfl⟩ | ⟨-, hnext, ⟨ha, -⟩, -, -⟩
  · exact ⟨⟨ha, .inl ⟨skipped, rest, hfast, hskipped⟩⟩, _, rfl⟩
  · obtain ⟨-, -, k, hdue, hleast⟩ := hnext
    obtain ⟨ha, rfl⟩ := dueSince_restarted.mp hdue
    refine ⟨⟨ha, .inr ⟨hnone, fun x hx => ?_⟩⟩, _, rfl⟩
    rcases hleast x k (dueSince_restarted.mpr ⟨hx, rfl⟩) List.not_mem_nil with hlt | ⟨-, hle⟩
    · exact absurd hlt (lt_irrefl k)
    · exact hle
  · have hdue : DueSince (p.restarted m) a m := by
      refine dueSince_restarted.mpr ⟨fun habsent => ?_, rfl⟩
      have hread : (p.restarted m).head? a = none := by rw [head?_restarted, habsent]; rfl
      rw [show Table.get? a.val (p.restarted m).heads = none from hread] at ha
      exact Bool.false_ne_true ha
    have hcandidate : (m, a) ∈ (p.restarted m).candidates ⟨p.fastList, p.fastList, 2, []⟩ :=
      mem_candidates_iff.mpr ⟨hdue, List.not_mem_nil⟩
    cases he : earliest ((p.restarted m).candidates ⟨p.fastList, p.fastList, 2, []⟩) with
    | none => rw [earliest_eq_none_iff.mp he] at hcandidate; exact absurd hcandidate List.not_mem_nil
    | some e => exact absurd (promotedNext_iff.mpr ⟨Nat.two_pos, e.1, he⟩) (hnext e.2)

/-- The poll of a restarted head carries its IDENT, the only item; the emptied list clears its moment (log 8). -/
theorem refresh_afterPoll_restarted (m k : Nat) (h : Head) :
    ((h.restarted m).afterPoll).refresh k = { h.restarted m with items := [], pendingSince := none } := rfl

/-- A restarted spur whose first poll, of a head at an address, has carried its IDENT out. -/
def Spur.polledAt (p : Spur) (m : Nat) (a : Fin 32) (h : Head) (r : Option Round) : Spur :=
  { p.restarted m with
    round := r, exchange := some ⟨a, .sending, p.rate, none, false, [], some m⟩, txFifo := pollFrame a [.ident]
    heads := Table.put a.val { h.restarted m with items := [], pendingSince := none } (p.restarted m).heads }

end Port

section FirstPoll
variable {s : State} {sp : Fin 4}

/-- A spur restarted with no head enrolled is idle (R165). -/
theorem beginPoll_restarted_idle (hn : ∀ a, s.head? sp a = none) :
    (s.putSpur sp ((s.spur sp).restarted s.eventNo)).beginPoll sp =
      withSpur s sp ((s.spur sp).restarted s.eventNo) := by
  have hread : ∀ a, (s.putSpur sp ((s.spur sp).restarted s.eventNo)).head? sp a = none := fun a => by
    rw [State.head?, State.spur_putSpur_self]
    exact (head?_restarted ..).trans (by rw [show (s.spur sp).head? a = none from hn a]; rfl)
  have hself : (s.putSpur sp ((s.spur sp).restarted s.eventNo)).spurs[sp] = (s.spur sp).restarted s.eventNo :=
    State.spur_putSpur_self ..
  rw [beginPoll_of_empty hread, hself]
  exact putSpur_putSpur ..

/-- A restarted spur polls its first head at once, and the poll empties that head's list. -/
theorem beginPoll_restarted {a : Fin 32} (ha : s.head? sp a ≠ none) : ∃ b h r, s.head? sp b = some h
    ∧ PolledFirst (s.spur sp) b ∧ (s.putSpur sp ((s.spur sp).restarted s.eventNo)).beginPoll sp =
      withSpur s sp ((s.spur sp).polledAt s.eventNo b h r) := by
  have hself : (s.putSpur sp ((s.spur sp).restarted s.eventNo)).spurs[sp] = (s.spur sp).restarted s.eventNo :=
    State.spur_putSpur_self ..
  obtain ⟨b, q, hnext⟩ : ∃ b q, PollsNext ((s.spur sp).restarted s.eventNo) b q := by
    refine exists_pollsNext_iff.mpr ⟨a, ?_⟩
    rw [head?_restarted, Option.isSome_map]
    exact Option.isSome_iff_ne_none.mpr ha
  obtain ⟨hfirst, r, rfl⟩ := polledFirst_of_pollsNext hnext
  obtain ⟨h, hh⟩ := Option.ne_none_iff_exists'.mp hfirst.1
  refine ⟨b, h, r, hh, hfirst, ?_⟩
  have hread : (s.putSpur sp ((s.spur sp).restarted s.eventNo)).head? sp b = some (h.restarted s.eventNo) := by
    rw [State.head?, State.spur_putSpur_self]
    exact (head?_restarted ..).trans (by rw [show (s.spur sp).head? b = some h from hh]; rfl)
  rw [beginPoll_of_next (hself ▸ hnext) hread, hself]
  have hport : ∀ q : Spur, (withSpur (s.putSpur sp ((s.spur sp).restarted s.eventNo)) sp q).putHead sp b
      (h.restarted s.eventNo).afterPoll = withSpur s sp { q with
        heads := Table.put b.val { h.restarted s.eventNo with items := [], pendingSince := none } q.heads } := fun q => by
    rw [show withSpur (s.putSpur sp ((s.spur sp).restarted s.eventNo)) sp q = s.putSpur sp q from putSpur_putSpur ..,
      State.putHead, State.spur_putSpur_self, State.putSpur_eventNo, refresh_afterPoll_restarted]
    exact putSpur_putSpur ..
  rw [hport]
  rfl

end FirstPoll

/-! ### A spur restarted (R171) -/

/-- A spur after a RESTART: idle with no head enrolled, else with its first poll under way. -/
def AfterRestart (m : Nat) (p q : Spur) : Prop :=
  (∀ a, p.head? a = none) ∧ q = p.restarted m
    ∨ ∃ a h r, p.head? a = some h ∧ PolledFirst p a ∧ q = p.polledAt m a h r

namespace AfterRestart

variable {m : Nat} {p q : Spur}

theorem settings (h : AfterRestart m p q) :
    q.rate = p.rate ∧ q.fastList = p.fastList ∧ q.cursor = p.cursor ∧ q.rxFifo = [] := by
  obtain ⟨-, rfl⟩ | ⟨a, x, r, -, -, rfl⟩ := h
  · exact ⟨rfl, rfl, rfl, rfl⟩
  · exact ⟨rfl, rfl, rfl, rfl⟩

theorem exchange_eq_none_iff (h : AfterRestart m p q) : q.exchange = none ↔ ∀ a, p.head? a = none := by
  obtain ⟨hn, rfl⟩ | ⟨a, x, r, ha, -, rfl⟩ := h
  · exact iff_of_true rfl hn
  · exact iff_of_false (Option.some_ne_none _) fun hn => Option.some_ne_none x (ha.symm.trans (hn a))

theorem exchange_eq_some {e : Exchange} (h : AfterRestart m p q) (he : q.exchange = some e) :
    e = ⟨e.address, .sending, p.rate, none, false, [], some m⟩ ∧ q.txFifo = pollFrame e.address [.ident]
      ∧ PolledFirst p e.address := by
  obtain ⟨-, rfl⟩ | ⟨a, x, r, -, hfirst, rfl⟩ := h
  · exact absurd he (by simp [Spur.restarted])
  · obtain rfl := Option.some.inj he
    exact ⟨rfl, rfl, hfirst⟩

/-- Every head is restarted; the poll has taken the IDENT of the one it goes to. -/
theorem head?_eq (h : AfterRestart m p q) (a : Fin 32) : q.head? a = (p.head? a).map (fun x =>
    if q.exchange.map Exchange.address = some a then { x.restarted m with items := [], pendingSince := none }
    else x.restarted m) := by
  obtain ⟨hn, rfl⟩ | ⟨b, x, r, hb, -, rfl⟩ := h
  · rw [head?_restarted, hn a]
    rfl
  · by_cases hab : a = b
    · subst hab
      rw [hb]
      exact (Table.get?_put_self ..).trans (by simp [Spur.polledAt])
    · have hread : (p.polledAt m b x r).head? a = (p.restarted m).head? a :=
        Table.get?_put_ne (fun e => hab (Fin.ext e)) ..
      have haddress : (p.polledAt m b x r).exchange.map Exchange.address ≠ some a := fun e =>
        hab (Option.some.inj e).symm
      simp only [hread, head?_restarted, if_neg haddress]

end AfterRestart

section Restart
variable {s : State} {sp : Fin 4}

/-- A RESTART of a spur abandons its movements and begins its round afresh. -/
theorem restartSpur_eq (hw : TablesCanonical s) : ∃ q, s.restartSpur sp = withSpur (s.movementsAbandoned sp) sp q
    ∧ AfterRestart s.eventNo (s.spur sp) q := by
  obtain ⟨-, hl, hc, -⟩ := hw
  have hframe := movementsAbandoned_frame (sp := sp) hl hc
  have hspur : (s.movementsAbandoned sp).spur sp = s.spur sp := by rw [hframe]; rfl
  have hevent : (s.movementsAbandoned sp).eventNo = s.eventNo := by rw [hframe]
  have hrestart : s.restartSpur sp = ((s.movementsAbandoned sp).putSpur sp (((s.movementsAbandoned sp).spur sp).restarted
      (s.movementsAbandoned sp).eventNo)).beginPoll sp := rfl
  rw [hrestart]
  by_cases hn : ∀ a, (s.movementsAbandoned sp).head? sp a = none
  · refine ⟨_, beginPoll_restarted_idle hn, ?_⟩
    rw [hspur, hevent]
    exact .inl ⟨fun a => hspur ▸ hn a, rfl⟩
  · obtain ⟨a, ha⟩ := not_forall.mp hn
    obtain ⟨b, h, r, hb, hfirst, hpoll⟩ := beginPoll_restarted ha
    refine ⟨_, hpoll, ?_⟩
    rw [hspur] at hfirst ⊢
    rw [hevent]
    exact .inr ⟨b, h, r, hspur ▸ hb, hfirst, rfl⟩

theorem restart_eq (mask : BitVec 4) :
    let named := (List.finRange 4).filter (fun i => mask.getLsbD i.val)
    s.restart mask = .accepted (named.foldl State.restartSpur s)
      (.restarted (named.map (fun sp => (s.spur sp).heads.length)).sum
        (named.map (fun sp => (s.movingLockers sp).length + (s.movingCabins sp).length)).sum) := rfl

theorem mem_abandonmentLinks_iff {x : Serial} :
    x ∈ (s.movingCabins sp).filterMap (fun n => (s.cabin? n).bind (abandonmentLink n)) ↔
      ∃ n c, s.cabin? n = some c ∧ c.spur = sp ∧ c.action ≠ none ∧ c.state = .admitting ∧ c.band = some x := by
  simp only [List.mem_filterMap, mem_movingCabins_iff, Option.bind_eq_some_iff, abandonmentLink,
    Option.ite_none_right_eq_some]
  constructor
  · rintro ⟨n, ⟨c, hc, hsp, ha⟩, c', hc', hs, hb⟩
    obtain rfl : c = c' := Option.some.inj (hc.symm.trans hc')
    exact ⟨n, c, hc, hsp, ha, hs, hb⟩
  · rintro ⟨n, c, hc, hsp, ha, hs, hb⟩
    exact ⟨n, ⟨c, hc, hsp, ha⟩, c, hc, hs, hb⟩

end Restart

end Sys2Proof.Machine

namespace Sys2Proof.Proofs
open Sys2Proof Sys2Proof.Machine Sys2Proof.Claims

/-- Settles O37: the movements of the spur abandoned, lockers before cabins, then the port restarted and its first head
polled. -/
theorem restartResult : Obligations.RestartResult := by
  refine ⟨fun s mask hr =>
    answers_of_owner (c := .restart mask) hr (fun _ => rfl) trivial (restart_eq (s := framed s) mask), ?_⟩
  intro s sp hw t p q
  have ⟨_, hl, hc, _⟩ := hw
  obtain ⟨q', ht, hafter⟩ := restartSpur_eq (sp := sp) hw
  have ht' : t = withSpur (s.movementsAbandoned sp) sp q' := ht
  have hq : q = q' := by
    change t.spur sp = q'
    rw [ht']
    exact State.spur_putSpur_self ..
  rw [← hq] at ht' hafter
  clear_value q
  obtain ⟨hrate, hfast, hcursor, hrx⟩ := hafter.settings
  refine ⟨?_, hrate, hfast, hcursor, hrx, hafter.exchange_eq_none_iff, fun x hx => ?_, fun a => ?_, fun n => ?_,
    fun n => ?_, ⟨s.movingLockers sp, s.movingAdmits sp, sorted_movingLockers hl, (sorted_movingCabins hc).filter _,
      mem_movingLockers_iff, mem_movingAdmits_iff, fun hr => ?_⟩, fun hd slot => ?_⟩
  · rw [ht', movementsAbandoned_frame hl hc]
    rfl
  · obtain ⟨hexchange, htx, henrolled, hfirst⟩ := hafter.exchange_eq_some hx
    exact ⟨hexchange, htx, henrolled, hfirst⟩
  · have hhead : t.head? sp a = q.head? a := by
      rw [State.head?, ht']
      exact congrArg (fun u : Spur => u.head? a) (State.spur_putSpur_self ..)
    have hread : q.head? a = (s.head? sp a).map _ := hafter.head?_eq a
    rw [hhead, hread]
    cases s.head? sp a with
    | none => trivial
    | some x =>
      by_cases ha : q.exchange.map Exchange.address = some a
      · rw [Option.map_some, if_pos ha]
        exact ⟨rfl, rfl, rfl, rfl, rfl, fun _ => ⟨rfl, rfl⟩, fun hne => absurd ha hne⟩
      · rw [Option.map_some, if_neg ha]
        exact ⟨rfl, rfl, rfl, rfl, rfl, fun he => absurd he ha, fun _ => ⟨rfl, rfl⟩⟩
  · rw [ht']
    exact locker?_movementsAbandoned hl hc n
  · rw [ht']
    exact cabin?_movementsAbandoned hl hc n
  · rw [ht']
    exact queue_movementsAbandoned hl hc hr
  · have hband : t.band? slot = (s.movementsAbandoned sp).band? slot := by rw [ht']; rfl
    rw [hband, band?_movementsAbandoned hw hd]
    refine ⟨fun hn => by rw [hn]; rfl, fun b hb => ?_⟩
    intro lost
    rw [hb, Option.map_some]
    exact ⟨fun h => congrArg some (if_pos (mem_abandonmentLinks_iff.mpr h)),
      fun h => congrArg some (if_neg (h ∘ mem_abandonmentLinks_iff.mp))⟩

end Sys2Proof.Proofs
